-- ==== Sys2Proof/Config.lean ====
section
/-! DEFINITION. The fixed capacities of the part (00_scope.md 2.3). The spec leaves no value of an instruction's
result open, so there is no free value here. -/
namespace Sys2Proof

/-- Streams S0 to S23. -/
abbrev numStreams : Nat := 24
/-- Slot entries of a bank. -/
abbrev numSlots : Nat := 48
/-- Outstanding Table entries, one for each downstream tag. -/
abbrev numTags : Nat := 48
/-- Request descriptors held at once (R57). -/
abbrev numDescriptors : Nat := 128
/-- Units of the write-data pool (R57). -/
abbrev numDataUnits : Nat := 384
/-- Ordinary records the Event Queue stores before loss begins (R130). -/
abbrev numOrdinaryRecords : Nat := 31
/-- The longest frame, in ticks (R28 FRAME). -/
abbrev maxFrameLength : Nat := 65535
/-- Value at which the 16-bit saturating counts stop: sync wait count, holdover frames, OVERFLOW count (R50, R51, R131). -/
abbrev maxCount16 : Nat := 65535
/-- The revision STATUS returns (R166). -/
abbrev revision : Nat := 1

/-- A stream number. -/
abbrev StreamId := Fin numStreams
/-- A slot index. -/
abbrev SlotId := Fin numSlots
/-- A downstream tag, the index of an Outstanding Table entry. -/
abbrev Tag := Fin numTags

end Sys2Proof
end

