-- ==== Sys2Proof/Word.lean ====
section
/-! DEFINITION. The word types of the VS2448 and its saturating counter addition. -/
namespace Sys2Proof

/-- A byte of the Management Link (12.1). -/
abbrev Byte := BitVec 8

/-- A 32-bit count: tick counter, frame number, admission sequence, statistics counter (5.1). -/
abbrev Word := BitVec 32

/-- One unit of data: 32 bytes (4.1 "unit"). -/
abbrev DataUnit := BitVec 256

end Sys2Proof
end

