-- ==== Sys2Proof/Records.lean ====
section
/-! DEFINITION. The records that cross the Upstream and Downstream Ports (10_the_memory_path_ports.md) and the
commands of the Management Link (11.6), with the enumerations they carry. -/
namespace Sys2Proof

/-- Request kind. -/
inductive Kind | read | write
deriving DecidableEq, Repr

/-- Refusal reason (R72; 12.5 gives the codes). -/
inductive Reason | malformed | duplicate | unclassified | closed | full | overBudget | flushed | reset
deriving DecidableEq, Repr

/-- An upstream request (10, R151). `length` is the length encoding, 0 to 15. -/
structure UpRequest where
  initiator : BitVec 5
  transaction : Byte
  kind : Kind
  unitAddr : BitVec 31
  length : Nat
  group : BitVec 2
  data : List DataUnit
deriving DecidableEq, Repr

/-- Status of an upstream response; a REFUSED one carries its reason (R153). -/
inductive UpStatus | ok | memoryError | timeout | refused (reason : Reason)
deriving DecidableEq, Repr

/-- An upstream response (R153). -/
structure UpResponse where
  initiator : BitVec 5
  transaction : Byte
  status : UpStatus
  data : List DataUnit
deriving DecidableEq, Repr

/-- A downstream request (R155). -/
structure DownRequest where
  tag : Tag
  kind : Kind
  unitAddr : BitVec 31
  length : Nat
  data : List DataUnit
deriving DecidableEq, Repr

/-- A downstream response (R156). `tag` is the encoding, 0 to 63; `ok` is status OK, not ERROR. -/
structure DownResponse where
  tag : BitVec 6
  ok : Bool
  data : List DataUnit
deriving DecidableEq, Repr

/-- The twenty-two Management Link commands (11.6). -/
inductive LinkCommand
  | status | readSettings | writeSettings | readStream | writeStream | setStreamState | flushStream | clearFlags
  | readSlots | writeSlots | setSlotCount | commit | engage | disengage | quiesce | resume | snapshot | readSnapshot
  | readEvents | reset | repeatLast | revertStaged
deriving DecidableEq, Repr

/-- The nine response statuses (R162; 12.2 gives the codes). -/
inductive Status
  | ok | started | busy | badCommand | badArgument | badState | linkCrc | linkLength | noData
deriving DecidableEq, Repr

end Sys2Proof
end

