-- ==== Sys2Proof/Syntax.lean ====
section
/-! DEFINITION. The commands of the block: one constructor for each row of spec/opcode_table.json, in the table's
order. The operands are the values that the event brings with it from outside (log entries 1, 5 and 8). -/
namespace Sys2Proof

/-- The level of a line. -/
inductive Level | low | high
deriving DecidableEq, Repr

/-- A command. A Management Link command carries the sequence byte and the argument bytes of its frame (R159). -/
inductive Instr
  /-- POWER_ON_RESET. R38. Power is applied or RST_N is asserted. -/
  | powerOnReset
  /-- TICK. R36. One tick; `fsync` is the level the FSYNC line shows at this tick's sample (R46). -/
  | tick (fsync : Level)
  /-- SLOT_END. R41, R42. The slot down-counter has reached 0 and the slot ends. -/
  | slotEnd
  /-- COMMIT_COMPLETION. R31. The frame start at which a pending COMMIT completes. -/
  | commitCompletion
  /-- FSYNC_EDGE. R46. FSYNC has changed to `level`. -/
  | fsyncEdge (level : Level)
  /-- SYNC_QUALIFICATION. R46 to R51. A sync qualifies. -/
  | syncQualification
  /-- SYNC_TIMEOUT_EXPIRY. R50. The sync timeout expires. -/
  | syncTimeoutExpiry
  /-- REQUEST_OFFER. R59, R151. The interconnect offers a request: its header (12.4) and write data. -/
  | requestOffer (header : BitVec 64) (data : List DataUnit)
  /-- DEADLINE_CROSSING. R75. The oldest queued request that is due crosses its deadline. -/
  | deadlineCrossing
  /-- DP_READY. R155. The memory controller signals READY. -/
  | dpReady
  /-- RELEASE. R78, R91. The Release Engine releases one request. -/
  | release
  /-- ENGAGEMENT_COMPLETION. R117. -/
  | engagementCompletion
  /-- QUIESCE_COMPLETION. R122. -/
  | quiesceCompletion
  /-- STREAM_AUTOMATIC_CLOSE. R12. -/
  | streamAutomaticClose (stream : StreamId)
  /-- RESPONSE_ARRIVAL. R101. A downstream response: its header (12.4) and read data. -/
  | responseArrival (header : BitVec 32) (data : List DataUnit)
  /-- RESPONSE_TIMEOUT_EXPIRY. R105, R106. Entry `tag` expires. -/
  | responseTimeoutExpiry (tag : Tag)
  /-- MSEL_N_ASSERTION. R159. -/
  | mselAssertion
  /-- MSEL_N_DEASSERTION. R163. -/
  | mselDeassertion
  /-- RESPONSE_FRAME_READY. R159, R164. -/
  | responseFrameReady
  /-- LINK_CRC. R160. A frame whose CRC byte mismatches has been received; `seq` is its sequence byte. -/
  | linkCrc (seq : Byte)
  /-- LINK_LENGTH. R161. A length byte of 129 to 255 has been received. -/
  | linkLength (seq : Byte)
  /-- BAD_COMMAND. R162. A frame with a good CRC and an unknown code has been received. -/
  | badCommand (seq : Byte)
  /-- STATUS. R166. Code 01h. -/
  | status (seq : Byte) (args : List Byte)
  /-- READ_SETTINGS. R167. Code 02h. -/
  | readSettings (seq : Byte) (args : List Byte)
  /-- WRITE_SETTINGS. R167. Code 03h. -/
  | writeSettings (seq : Byte) (args : List Byte)
  /-- READ_STREAM. R2. Code 04h. -/
  | readStream (seq : Byte) (args : List Byte)
  /-- WRITE_STREAM. R3 to R6. Code 05h. -/
  | writeStream (seq : Byte) (args : List Byte)
  /-- SET_STREAM_STATE. R8. Code 06h. -/
  | setStreamState (seq : Byte) (args : List Byte)
  /-- FLUSH_STREAM. R18. Code 07h. -/
  | flushStream (seq : Byte) (args : List Byte)
  /-- CLEAR_FLAGS. R136. Code 08h. -/
  | clearFlags (seq : Byte) (args : List Byte)
  /-- READ_SLOTS. R27. Code 09h. -/
  | readSlots (seq : Byte) (args : List Byte)
  /-- WRITE_SLOTS. R24. Code 0Ah. -/
  | writeSlots (seq : Byte) (args : List Byte)
  /-- SET_SLOT_COUNT. R25. Code 0Bh. -/
  | setSlotCount (seq : Byte) (args : List Byte)
  /-- COMMIT. R28, R29. Code 0Ch. -/
  | commit (seq : Byte) (args : List Byte)
  /-- ENGAGE. R116. Code 0Dh. -/
  | engage (seq : Byte) (args : List Byte)
  /-- DISENGAGE. R118. Code 0Eh. -/
  | disengage (seq : Byte) (args : List Byte)
  /-- QUIESCE. R121. Code 0Fh. -/
  | quiesce (seq : Byte) (args : List Byte)
  /-- RESUME. R124. Code 10h. -/
  | resume (seq : Byte) (args : List Byte)
  /-- SNAPSHOT. R148. Code 11h. -/
  | snapshot (seq : Byte) (args : List Byte)
  /-- READ_SNAPSHOT. R150. Code 12h. -/
  | readSnapshot (seq : Byte) (args : List Byte)
  /-- READ_EVENTS. R133. Code 13h. -/
  | readEvents (seq : Byte) (args : List Byte)
  /-- RESET. R125. Code 14h. -/
  | reset (seq : Byte) (args : List Byte)
  /-- REPEAT_LAST. R165. Code 15h. -/
  | repeatLast (seq : Byte) (args : List Byte)
  /-- REVERT_STAGED. R26. Code 16h. -/
  | revertStaged (seq : Byte) (args : List Byte)
  /-- BYTE_BOUNDARY. R159. Eight edges of MCLK have moved the byte `mdi` in. -/
  | byteBoundary (mdi : Byte)
deriving DecidableEq, Repr

end Sys2Proof
end

