-- ==== Sys2Proof/Decode.lean ====
section
/-! DEFINITION. The decoders of the block: command frames of the Management Link (R159 to R162, Table 12-1) and the
headers of the memory path records (12.4, R171), with the encoders of the same layouts. The opcode table gives its
rows no bits, so no word spells a command (log entry 23). -/
namespace Sys2Proof

/-- No row of spec/opcode_table.json has bits: no word spells a command (log entry 23). -/
def decodeTableWord (_nbits _w : Nat) : Option Instr := none

/-! ### CRC-8 (R160) -/

/-- One bit of the CRC: shift left, and fold in the polynomial 07h when a 1 leaves. -/
def crcBit (c : Byte) : Byte := if c.msb then (c <<< 1) ^^^ 0x07#8 else c <<< 1

/-- One byte of the CRC, most significant bit first. -/
def crcByte (c b : Byte) : Byte := crcBit^[8] (c ^^^ b)

/-- R160. CRC-8 with polynomial 07h, initial value FFh, no reflection, no final inversion. -/
def crc8 (bytes : List Byte) : Byte := bytes.foldl crcByte 0xFF#8

/-! ### Command codes (11.6) -/

/-- The code of a command. -/
def LinkCommand.code : LinkCommand → Byte
  | .status => 0x01#8 | .readSettings => 0x02#8 | .writeSettings => 0x03#8 | .readStream => 0x04#8
  | .writeStream => 0x05#8 | .setStreamState => 0x06#8 | .flushStream => 0x07#8 | .clearFlags => 0x08#8
  | .readSlots => 0x09#8 | .writeSlots => 0x0A#8 | .setSlotCount => 0x0B#8 | .commit => 0x0C#8
  | .engage => 0x0D#8 | .disengage => 0x0E#8 | .quiesce => 0x0F#8 | .resume => 0x10#8
  | .snapshot => 0x11#8 | .readSnapshot => 0x12#8 | .readEvents => 0x13#8 | .reset => 0x14#8
  | .repeatLast => 0x15#8 | .revertStaged => 0x16#8

/-- The command of a code; none outside 01h to 16h (R162). -/
def LinkCommand.ofCode (b : Byte) : Option LinkCommand :=
  match b.toNat with
  | 0x01 => some .status | 0x02 => some .readSettings | 0x03 => some .writeSettings | 0x04 => some .readStream
  | 0x05 => some .writeStream | 0x06 => some .setStreamState | 0x07 => some .flushStream | 0x08 => some .clearFlags
  | 0x09 => some .readSlots | 0x0A => some .writeSlots | 0x0B => some .setSlotCount | 0x0C => some .commit
  | 0x0D => some .engage | 0x0E => some .disengage | 0x0F => some .quiesce | 0x10 => some .resume
  | 0x11 => some .snapshot | 0x12 => some .readSnapshot | 0x13 => some .readEvents | 0x14 => some .reset
  | 0x15 => some .repeatLast | 0x16 => some .revertStaged
  | _ => none

/-- The command of the opcode table that a link command is, with its frame's sequence and argument bytes. -/
def LinkCommand.instr (c : LinkCommand) (seq : Byte) (args : List Byte) : Instr :=
  match c with
  | .status => .status seq args | .readSettings => .readSettings seq args
  | .writeSettings => .writeSettings seq args | .readStream => .readStream seq args
  | .writeStream => .writeStream seq args | .setStreamState => .setStreamState seq args
  | .flushStream => .flushStream seq args | .clearFlags => .clearFlags seq args
  | .readSlots => .readSlots seq args | .writeSlots => .writeSlots seq args
  | .setSlotCount => .setSlotCount seq args | .commit => .commit seq args
  | .engage => .engage seq args | .disengage => .disengage seq args
  | .quiesce => .quiesce seq args | .resume => .resume seq args
  | .snapshot => .snapshot seq args | .readSnapshot => .readSnapshot seq args
  | .readEvents => .readEvents seq args | .reset => .reset seq args
  | .repeatLast => .repeatLast seq args | .revertStaged => .revertStaged seq args

/-! ### Command frames (R159 to R162) -/

/-- What the bytes of a command frame received so far amount to. -/
inductive Frame
  /-- More bytes belong to the frame. -/
  | incomplete
  /-- R161. The length byte is 129 to 255; the frame ends there. -/
  | badLength (seq : Byte)
  /-- R160. The CRC byte does not match. -/
  | badCrc (seq : Byte)
  /-- R162 check 1. The CRC matches and the code is unknown. -/
  | badCode (seq : Byte)
  /-- A frame that passes the CRC and code checks. -/
  | command (c : LinkCommand) (seq : Byte) (args : List Byte)
deriving DecidableEq, Repr

/-- R159 to R162. The frame is code, sequence, length n, n argument bytes, CRC. -/
def decodeFrame (bytes : List Byte) : Frame :=
  match bytes with
  | code :: seq :: len :: rest =>
    if 128 < len.toNat then .badLength seq
    else
      match rest.drop len.toNat with
      | [] => .incomplete
      | crc :: _ =>
        if crc = crc8 (code :: seq :: len :: rest.take len.toNat) then
          match LinkCommand.ofCode code with
          | some c => .command c seq (rest.take len.toNat)
          | none => .badCode seq
        else .badCrc seq
  | _ => .incomplete

/-- The command of the opcode table that complete bytes amount to; none while the frame is incomplete. -/
def Frame.instr : Frame → Option Instr
  | .incomplete => none
  | .badLength seq => some (.linkLength seq)
  | .badCrc seq => some (.linkCrc seq)
  | .badCode seq => some (.badCommand seq)
  | .command c seq args => some (c.instr seq args)

/-- Table 12-1. The command frame of a command. -/
def encodeFrame (c : LinkCommand) (seq : Byte) (args : List Byte) : List Byte :=
  c.code :: seq :: BitVec.ofNat 8 args.length :: args
    ++ [crc8 (c.code :: seq :: BitVec.ofNat 8 args.length :: args)]

/-- 12.2. The code of a response status. -/
def Status.code : Status → Byte
  | .ok => 0x00#8 | .started => 0x01#8 | .busy => 0x02#8 | .badCommand => 0x03#8 | .badArgument => 0x04#8
  | .badState => 0x05#8 | .linkCrc => 0x06#8 | .linkLength => 0x07#8 | .noData => 0x08#8

/-- Table 12-1. The response frame: status, sequence echo, length, payload, CRC (R160). -/
def responseFrame (status : Status) (seq : Byte) (payload : List Byte) : List Byte :=
  status.code :: seq :: BitVec.ofNat 8 payload.length :: payload
    ++ [crc8 (status.code :: seq :: BitVec.ofNat 8 payload.length :: payload)]

/-! ### Memory path headers (12.4, R171) -/

/-- Bit of a kind: 0 READ, 1 WRITE. -/
def Kind.bit : Kind → BitVec 1
  | .read => 0#1 | .write => 1#1

/-- The kind of a bit. -/
def Kind.ofBit (b : BitVec 1) : Kind := if b = 0#1 then .read else .write

/-- 12.5. Code of a refusal reason. -/
def Reason.code : Reason → Nat
  | .malformed => 1 | .duplicate => 2 | .unclassified => 3 | .closed => 4 | .full => 5 | .overBudget => 6
  | .flushed => 7 | .reset => 8

/-- Upstream request header, bits 63–59 initiator, 58–51 transaction, 50 kind, 49–48 order group, 47–44 length,
43–31 Reserved and ignored (R171), 30–0 unit address. -/
def decodeUpRequest (h : BitVec 64) (data : List DataUnit) : UpRequest :=
  { initiator := h.extractLsb' 59 5
    transaction := h.extractLsb' 51 8
    kind := Kind.ofBit (h.extractLsb' 50 1)
    unitAddr := h.extractLsb' 0 31
    length := (h.extractLsb' 44 4).toNat
    group := h.extractLsb' 48 2
    data := data }

/-- The header of an upstream request, with `reserved` in its Reserved bits. -/
def encodeUpRequest (r : UpRequest) (reserved : BitVec 13) : BitVec 64 :=
  r.initiator ++ r.transaction ++ r.kind.bit ++ r.group ++ BitVec.ofNat 4 r.length ++ reserved ++ r.unitAddr

/-- How many units of data a downstream response header says follow: bits 24–21 (R171). -/
def downResponseUnits (h : BitVec 32) : Nat := (h.extractLsb' 21 4).toNat

/-- Downstream response header, bits 31–26 tag, 25 status, 24–21 data units, 20–0 Reserved and ignored. The port
takes as many units as the header says (R171). -/
def decodeDownResponse (h : BitVec 32) (data : List DataUnit) : DownResponse :=
  { tag := h.extractLsb' 26 6
    ok := h.extractLsb' 25 1 = 0#1
    data := data.take (downResponseUnits h) }

/-- The header of a downstream response, with `reserved` in its Reserved bits. -/
def encodeDownResponse (r : DownResponse) (reserved : BitVec 21) : BitVec 32 :=
  r.tag ++ (if r.ok then 0#1 else 1#1) ++ BitVec.ofNat 4 r.data.length ++ reserved

/-- 12.4. Status code of an upstream response. -/
def UpStatus.code : UpStatus → BitVec 2
  | .ok => 0#2 | .memoryError => 1#2 | .timeout => 2#2 | .refused _ => 3#2

/-- 12.4. Refusal reason field: 0 unless REFUSED. -/
def UpStatus.reasonCode : UpStatus → BitVec 4
  | .refused r => BitVec.ofNat 4 r.code
  | _ => 0#4

/-- 12.4, R171. The header of an upstream response; Reserved bits are sent as 0. -/
def UpResponse.header (r : UpResponse) : BitVec 32 :=
  r.initiator ++ r.transaction ++ r.status.code ++ r.status.reasonCode ++ BitVec.ofNat 4 r.data.length ++ 0#9

/-- 12.4, R171. The header of a downstream request; Reserved bits are sent as 0. -/
def DownRequest.header (r : DownRequest) : BitVec 64 :=
  BitVec.ofNat 6 r.tag.val ++ r.kind.bit ++ BitVec.ofNat 4 r.length ++ 0#22 ++ r.unitAddr

end Sys2Proof
end

