-- ==== Sys2Proof/Table.lean ====
section
/-! DEFINITION. A table of a fixed number of places, as plain data: the Stream Table, the stream queues, the slot
entries of a bank, the Outstanding Table and the per-stream counter groups are each one. -/
namespace Sys2Proof

/-- `n` places of type `α`, place 0 first. -/
structure Table (n : Nat) (α : Type) where
  cells : List α
  size : cells.length = n
deriving DecidableEq, Repr

/-- The contents of place `i`. -/
def Table.get {n : Nat} {α : Type} (t : Table n α) (i : Fin n) : α :=
  t.cells[i.val]'(by rw [t.size]; exact i.isLt)

/-- `t` with `a` in place `i`. -/
def Table.set {n : Nat} {α : Type} (t : Table n α) (i : Fin n) (a : α) : Table n α :=
  ⟨t.cells.set i.val a, by simp [t.size]⟩

/-- `f` applied to every place. -/
def Table.map {n : Nat} {α β : Type} (f : α → β) (t : Table n α) : Table n β :=
  ⟨t.cells.map f, by simp [t.size]⟩

/-- Every place holds `a`. -/
def Table.replicate (n : Nat) {α : Type} (a : α) : Table n α :=
  ⟨List.replicate n a, by simp⟩

end Sys2Proof
end

