-- ==== Sys2Proof/Machine/State.lean ====
section
/-! DEFINITION. The state of the block, one structure for each block of 00_scope.md 2.1, and the state after power-on
reset. A value that the spec says equals another (a queue's count, the free descriptors, ATTN, the window) is a view in
Machine/Ops.lean, not a field (log entry 12). -/
namespace Sys2Proof.Machine
open Sys2Proof

/-! ### Stream Table (chapter 1) -/

/-- 1.3. The state of a stream. -/
inductive StreamState | disabled | active | paused | draining
deriving DecidableEq, Repr

/-- R4. The request kinds a stream takes. -/
inductive Kinds | read | write | both
deriving DecidableEq, Repr

/-- R17. Over-budget policy. -/
inductive OverBudget | hold | lend | refuse
deriving DecidableEq, Repr

/-- R70. Full policy. -/
inductive FullPolicy | stall | refuse
deriving DecidableEq, Repr

/-- Table 1-1, without the values that are views. `carry` and `openShare` are ON and YES when true. -/
structure StreamEntry where
  state : StreamState
  initiatorSet : BitVec 32
  pageBase : BitVec 24
  pageLimit : BitVec 24
  kinds : Kinds
  reload : BitVec 16
  carry : Bool
  overBudget : OverBudget
  fullPolicy : FullPolicy
  openShare : Bool
  queueLimit : BitVec 8
  reserve : BitVec 8
  deadline : BitVec 16
  maxInFlight : BitVec 8
  credit : Nat
  refusedSeen : Bool
  lateSeen : Bool
  heldSeen : Bool
deriving DecidableEq, Repr

/-- R1. The last column of Table 1-1. -/
def StreamEntry.reset : StreamEntry :=
  { state := .disabled, initiatorSet := 0#32, pageBase := 0#24, pageLimit := 0#24, kinds := .both, reload := 0#16,
    carry := false, overBudget := .hold, fullPolicy := .refuse, openShare := false, queueLimit := 16#8,
    reserve := 0#8, deadline := 0#16, maxInFlight := 48#8, credit := 0, refusedSeen := false, lateSeen := false,
    heldSeen := false }

/-! ### Request Store (4.1) -/

/-- 4.1. An accepted request that has not been released. The list that holds it is its queue. -/
structure Descriptor where
  initiator : BitVec 5
  transaction : Byte
  kind : Kind
  unitAddr : BitVec 31
  length : Nat
  group : BitVec 2
  data : List DataUnit
  seq : Word
  admTick : Word
  late : Bool
deriving DecidableEq, Repr

/-- The Request Store: 24 stream queues and the pass queue, each oldest first, and the next sequence value (R58). -/
structure Store where
  queues : Table numStreams (List Descriptor)
  pass : List Descriptor
  nextSeq : Word
deriving DecidableEq, Repr

/-- R57, R58. Every queue empty, next sequence 0. -/
def Store.reset : Store := { queues := Table.replicate numStreams [], pass := [], nextSeq := 0#32 }

/-! ### Ports (chapter 10) -/

/-- R151. The offer place, which holds the stalled request of the Admission Unit, and the responses the port has
emitted since power-on, oldest first (the model's record of its output, log entry 11). -/
structure Port where
  offer : Option UpRequest
  sent : List UpResponse
deriving DecidableEq, Repr

/-- R155. The ready condition, and the requests the port has sent since power-on, oldest first (log entry 11). -/
structure Down where
  ready : Bool
  sent : List DownRequest
deriving DecidableEq, Repr

/-! ### Schedule Store (chapter 2) -/

/-- R21. What a slot entry's owner says. -/
inductive Owner | stream | openAll | quiet
deriving DecidableEq, Repr

/-- Table 2-1. A slot entry; `lend` is ON when true. -/
structure SlotEntry where
  owner : Owner
  number : BitVec 5
  lend : Bool
  length : BitVec 12
deriving DecidableEq, Repr

/-- Table 2-1. A slot bank. -/
structure Bank where
  count : Nat
  entries : Table numSlots SlotEntry
deriving DecidableEq, Repr

/-- R20. The last column of Table 2-1. -/
def Bank.reset : Bank :=
  { count := 1
    entries := Table.replicate numSlots { owner := .openAll, number := 0#5, lend := false, length := 1000#12 } }

/-! ### Settings (R167) -/

/-- Table 3-1. -/
inductive Prescaler | by1 | by2 | by16 | by128
deriving DecidableEq, Repr

/-- 3.2. -/
inductive Timing | source | follow
deriving DecidableEq, Repr

/-- R46. The chosen edge. -/
inductive SyncEdge | rising | falling
deriving DecidableEq, Repr

/-- R52. -/
inductive GapPolicy | openAll | quiet
deriving DecidableEq, Repr

/-- The ten settings of R167. `fsyncOut` is the FSYNC output enable. `mask` is the attention mask: bit 0 TRAFFIC,
1 MEMORY, 2 TIMING, 3 CONTROL, 4 OVERFLOW (Table 12-4). -/
structure Settings where
  prescaler : Prescaler
  timing : Timing
  fsyncOut : Bool
  edge : SyncEdge
  q : BitVec 4
  syncTimeout : BitVec 16
  gap : GapPolicy
  defaultStream : Option StreamId
  responseTimeout : BitVec 16
  mask : BitVec 5
deriving DecidableEq, Repr

/-- R167. The settings after either reset. -/
def Settings.reset : Settings :=
  { prescaler := .by1, timing := .source, fsyncOut := false, edge := .rising, q := 2#4, syncTimeout := 0#16,
    gap := .quiet, defaultStream := none, responseTimeout := 0#16, mask := 0b11010#5 }

/-! ### Frame Timer (chapter 3) -/

/-- 3.2. -/
inductive TimerState | stopped | free | waitSync | locked | holdover
deriving DecidableEq, Repr

/-- R46. -/
inductive Qualifier | idle | qualifying (count : Nat)
deriving DecidableEq, Repr

/-- The Frame Timer. `divider` is the count of REFCLK periods the tick divider was last loaded with (R36, log entry
4). `pulse`: a sync pulse is on FSYNC (R45). `line` and `sample` are the level on the FSYNC input and the level at the
last tick's sample; `frameTick` is the tick of the last frame start (log entries 5 and 15). -/
structure Timer where
  state : TimerState
  tick : Word
  divider : Nat
  frame : Word
  slot : Option SlotId
  down : Nat
  qualifier : Qualifier
  reference : Level
  waitCount : Nat
  holdover : Nat
  pulse : Bool
  line : Level
  sample : Level
  frameTick : Word
deriving DecidableEq, Repr

/-- R38, power-on column; `line`, `sample` and `frameTick` by log entry 15. -/
def Timer.reset : Timer :=
  { state := .stopped, tick := 0#32, divider := 1, frame := 0#32, slot := none, down := 0, qualifier := .idle,
    reference := .low, waitCount := 0, holdover := 0, pulse := false, line := .low, sample := .low,
    frameTick := 0#32 }

/-! ### Release Engine (chapter 5) -/

/-- R94. The slot-outcome record. -/
structure SlotOutcome where
  slot : SlotId
  owner : Option StreamId
  released : Bool
  seen : Bool
deriving DecidableEq, Repr

/-- R77. -/
structure Engine where
  pointer : StreamId
  outcome : Option SlotOutcome
deriving DecidableEq, Repr

/-- R77. -/
def Engine.reset : Engine := { pointer := 0, outcome := none }

/-! ### Outstanding Table (chapter 6) -/

/-- R98. What an entry is attributed to: a stream, PASS, or NONE. -/
inductive Attribution | stream (s : StreamId) | pass | nobody
deriving DecidableEq, Repr

/-- R98. The fields of an entry that holds its tag. -/
structure Held where
  initiator : BitVec 5
  transaction : Byte
  stream : Attribution
  kind : Kind
  length : Nat
  admTick : Word
  relTick : Word
deriving DecidableEq, Repr

/-- R98. -/
inductive Entry | free | inFlight (h : Held) | orphaned (h : Held)
deriving DecidableEq, Repr

/-! ### Event Queue (chapter 8) -/

/-- Table 8-1. -/
inductive EventKind
  | refused | late | overBudget | memoryError | respTimeout | lateResponse | unexpectedResponse | syncEarly | syncLost
  | syncRegained | commitDone | engaged | disengaged | quiesced | operationCancelled | streamClosed | resetDone
  | overflow
deriving DecidableEq, Repr

/-- R128. -/
inductive Category | traffic | memory | timing | control | overflow
deriving DecidableEq, Repr

/-- R128. An event record; its category is fixed by its kind. `request` is the initiator and transaction. -/
structure EventRecord where
  kind : EventKind
  stream : Option StreamId
  request : Option (BitVec 5 × Byte)
  detail : Nat
  frame : Word
  slot : Option SlotId
  tick : Word
deriving DecidableEq, Repr

/-- Chapter 8. The records, oldest first, and the global latches. -/
structure Events where
  records : List EventRecord
  portRefuseSeen : Bool
  earlySeen : Bool
deriving DecidableEq, Repr

/-- R138. -/
def Events.reset : Events := { records := [], portRefuseSeen := false, earlySeen := false }

/-! ### Statistics Unit (chapter 9) -/

/-- Table 9-1. -/
structure StreamStats where
  admittedRequests : Word
  admittedUnits : Word
  refusedRequests : Word
  highWater : Word
  chargedUnits : Word
  borrowedUnits : Word
  lateRequests : Word
  slotsUsed : Word
  slotsIdle : Word
  slotsBlocked : Word
  completed : Word
  memoryErrors : Word
  timeouts : Word
  latencyMin : Word
  latencyMax : Word
  latencySum : Word
deriving DecidableEq, Repr

/-- R140. Latency minimum FFFFFFFFh, every other counter 0. -/
def StreamStats.reset : StreamStats :=
  { admittedRequests := 0#32, admittedUnits := 0#32, refusedRequests := 0#32, highWater := 0#32,
    chargedUnits := 0#32, borrowedUnits := 0#32, lateRequests := 0#32, slotsUsed := 0#32, slotsIdle := 0#32,
    slotsBlocked := 0#32, completed := 0#32, memoryErrors := 0#32, timeouts := 0#32, latencyMin := 0xFFFFFFFF#32,
    latencyMax := 0#32, latencySum := 0#32 }

/-- Table 9-2. -/
structure GlobalStats where
  framesStarted : Word
  earlySyncs : Word
  glitches : Word
  syncLosses : Word
  syncRegains : Word
  passReleases : Word
  unexpected : Word
  lateResponses : Word
  timeouts : Word
  crcErrors : Word
  aborted : Word
  eventsLost : Word
deriving DecidableEq, Repr

/-- R140. -/
def GlobalStats.reset : GlobalStats :=
  { framesStarted := 0#32, earlySyncs := 0#32, glitches := 0#32, syncLosses := 0#32, syncRegains := 0#32,
    passReleases := 0#32, unexpected := 0#32, lateResponses := 0#32, timeouts := 0#32, crcErrors := 0#32,
    aborted := 0#32, eventsLost := 0#32 }

/-- R148. The copied group with its target. -/
inductive GroupCopy | stream (s : StreamId) (g : StreamStats) | global (g : GlobalStats)
deriving DecidableEq, Repr

/-- R148. A valid snapshot buffer. -/
structure Snapshot where
  copy : GroupCopy
  frame : Word
  tick : Word
deriving DecidableEq, Repr

/-- Chapter 9. `snapshot` is none when the buffer is invalid. -/
structure Stats where
  streams : Table numStreams StreamStats
  globals : GlobalStats
  snapshot : Option Snapshot
deriving DecidableEq, Repr

/-- R140. -/
def Stats.reset : Stats :=
  { streams := Table.replicate numStreams StreamStats.reset, globals := GlobalStats.reset, snapshot := none }

/-! ### Mode Controller (chapter 7) -/

/-- 7.1. -/
inductive Mode | pass | engaging | regulate | quiescing | quiesced
deriving DecidableEq, Repr

/-- R114. -/
inductive PendingOp | none | commit | engage | quiesce
deriving DecidableEq, Repr

/-- 7.1. -/
inductive ReturnMode | pass | regulate
deriving DecidableEq, Repr

/-- The Mode Controller. `engaged` counts the pass-queue releases since the ENGAGE was taken (R117). -/
structure Control where
  mode : Mode
  pendingOp : PendingOp
  returnMode : ReturnMode
  engaged : Nat
deriving DecidableEq, Repr

/-- R113. -/
def Control.reset : Control := { mode := .pass, pendingOp := .none, returnMode := .pass, engaged := 0 }

/-! ### Management Link Interface (chapter 11) -/

/-- Chapter 11. RECEIVING holds the bytes so far, RESPONDING the position in the response frame. -/
inductive Receiver | idle | receiving (bytes : List Byte) | working | responding (position : Nat) | done
deriving DecidableEq, Repr

/-- A response that has been decided and is not yet in the response buffer (R159, R163). `retain`: it becomes the
retained last response when it is placed (R164, R165). -/
structure Reply where
  frame : List Byte
  retain : Bool
deriving DecidableEq, Repr

/-- Chapter 11. `mrdy` is HIGH when true. -/
structure Link where
  receiver : Receiver
  response : Option Reply
  buffer : Option (List Byte)
  retained : Option (List Byte)
  mrdy : Bool
deriving DecidableEq, Repr

/-- R158. -/
def Link.reset : Link :=
  { receiver := .idle, response := none, buffer := none, retained := none, mrdy := false }

/-! ### The machine -/

/-- The whole state. `pending` is the queue of commands that wait, first in, first out. -/
structure State where
  streams : Table numStreams StreamEntry
  store : Store
  port : Port
  dp : Down
  active : Bank
  staged : Bank
  settings : Settings
  timer : Timer
  engine : Engine
  table : Table numTags Entry
  events : Events
  stats : Stats
  ctl : Control
  link : Link
  pending : List Instr
deriving DecidableEq, Repr

/-- The state right after power-on reset (R1, R20, R38, R57, R77, R99, R113, R138, R140, R158, R167). -/
def State.reset : State :=
  { streams := Table.replicate numStreams StreamEntry.reset
    store := Store.reset
    port := { offer := none, sent := [] }
    dp := { ready := false, sent := [] }
    active := Bank.reset
    staged := Bank.reset
    settings := Settings.reset
    timer := Timer.reset
    engine := Engine.reset
    table := Table.replicate numTags .free
    events := Events.reset
    stats := Stats.reset
    ctl := Control.reset
    link := Link.reset
    pending := [] }

/-- Why the machine stops with a fault. The spec gives the block no machine fault: every error is a response, an event
record, a counter or a status. Nothing raises one. -/
inductive Fault
deriving DecidableEq, Repr

/-- Why a command has no meaning. -/
inductive Refusal
  /-- The command's arm has no meaning yet. No arm of this model raises it; safe. -/
  | notModelled (mnemonic : String)
deriving DecidableEq, Repr

/-- The outcome of a command. -/
abbrev Result := Host.Outcome State Fault Refusal

/-! ### One update for each field (their lemmas: Laws/State.lean) -/

/-- Replace the field `streams`. -/
def State.withStreams (s : State) (x : Table numStreams StreamEntry) : State := { s with streams := x }

/-- Replace the field `store`. -/
def State.withStore (s : State) (x : Store) : State := { s with store := x }

/-- Replace the field `port`. -/
def State.withPort (s : State) (x : Port) : State := { s with port := x }

/-- Replace the field `dp`. -/
def State.withDp (s : State) (x : Down) : State := { s with dp := x }

/-- Replace the field `active`. -/
def State.withActive (s : State) (x : Bank) : State := { s with active := x }

/-- Replace the field `staged`. -/
def State.withStaged (s : State) (x : Bank) : State := { s with staged := x }

/-- Replace the field `settings`. -/
def State.withSettings (s : State) (x : Settings) : State := { s with settings := x }

/-- Replace the field `timer`. -/
def State.withTimer (s : State) (x : Timer) : State := { s with timer := x }

/-- Replace the field `engine`. -/
def State.withEngine (s : State) (x : Engine) : State := { s with engine := x }

/-- Replace the field `table`. -/
def State.withTable (s : State) (x : Table numTags Entry) : State := { s with table := x }

/-- Replace the field `events`. -/
def State.withEvents (s : State) (x : Events) : State := { s with events := x }

/-- Replace the field `stats`. -/
def State.withStats (s : State) (x : Stats) : State := { s with stats := x }

/-- Replace the field `ctl`. -/
def State.withCtl (s : State) (x : Control) : State := { s with ctl := x }

/-- Replace the field `link`. -/
def State.withLink (s : State) (x : Link) : State := { s with link := x }

/-- Replace the field `pending`. -/
def State.withPending (s : State) (x : List Instr) : State := { s with pending := x }

end Sys2Proof.Machine
end

