-- ==== Sys2Proof/Machine/Operands.lean ====
section
/-! DEFINITION. The argument and payload formats of the Management Link (chapter 12): how bytes become values, with
every encoding check of R162 and R168, and how values become bytes. -/
namespace Sys2Proof.Machine
open Sys2Proof

/-! ### Byte order (R168: most significant byte first) -/

/-- Two bytes of a 16-bit value. -/
def bytes16 (w : BitVec 16) : List Byte := [w.extractLsb' 8 8, w.extractLsb' 0 8]
/-- Three bytes of a 24-bit value. -/
def bytes24 (w : BitVec 24) : List Byte := [w.extractLsb' 16 8, w.extractLsb' 8 8, w.extractLsb' 0 8]
/-- Four bytes of a 32-bit value. -/
def bytes32 (w : BitVec 32) : List Byte :=
  [w.extractLsb' 24 8, w.extractLsb' 16 8, w.extractLsb' 8 8, w.extractLsb' 0 8]
/-- One byte of a count. -/
def natByte (n : Nat) : Byte := BitVec.ofNat 8 n
/-- One bit as a byte, 00h or 01h. -/
def flagByte (b : Bool) : Byte := if b then 0x01#8 else 0x00#8

/-! ### Enumerated values (12.3, 12.5) -/

/-- 00h and 01h are the only encodings of a two-valued field. -/
def parseFlag (b : Byte) : Option Bool :=
  match b.toNat with | 0 => some false | 1 => some true | _ => none

/-- Table 12-5. -/
def parseKinds (b : Byte) : Option Kinds :=
  match b.toNat with | 0 => some .read | 1 => some .write | 2 => some .both | _ => none
/-- Table 12-5. -/
def Kinds.code : Kinds → Byte | .read => 0#8 | .write => 1#8 | .both => 2#8

/-- Table 12-5. -/
def parseOverBudget (b : Byte) : Option OverBudget :=
  match b.toNat with | 0 => some .hold | 1 => some .lend | 2 => some .refuse | _ => none
/-- Table 12-5. -/
def OverBudget.code : OverBudget → Byte | .hold => 0#8 | .lend => 1#8 | .refuse => 2#8

/-- Table 12-5. -/
def parseFullPolicy (b : Byte) : Option FullPolicy :=
  match b.toNat with | 0 => some .stall | 1 => some .refuse | _ => none
/-- Table 12-5. -/
def FullPolicy.code : FullPolicy → Byte | .stall => 0#8 | .refuse => 1#8

/-- Table 12-5. -/
def parseStreamState (b : Byte) : Option StreamState :=
  match b.toNat with | 0 => some .disabled | 1 => some .active | 2 => some .paused | 3 => some .draining | _ => none
/-- Table 12-5. -/
def StreamState.code : StreamState → Byte | .disabled => 0#8 | .active => 1#8 | .paused => 2#8 | .draining => 3#8

/-- Table 12-4. -/
def parsePrescaler (b : Byte) : Option Prescaler :=
  match b.toNat with | 0 => some .by1 | 1 => some .by2 | 2 => some .by16 | 3 => some .by128 | _ => none
/-- Table 12-4. -/
def Prescaler.code : Prescaler → Byte | .by1 => 0#8 | .by2 => 1#8 | .by16 => 2#8 | .by128 => 3#8
/-- R36. REFCLK periods in a tick. -/
def Prescaler.periods : Prescaler → Nat | .by1 => 1 | .by2 => 2 | .by16 => 16 | .by128 => 128

/-- Table 12-4. -/
def parseTiming (b : Byte) : Option Timing :=
  match b.toNat with | 0 => some .source | 1 => some .follow | _ => none
/-- Table 12-4. -/
def Timing.code : Timing → Byte | .source => 0#8 | .follow => 1#8

/-- Table 12-4. -/
def parseEdge (b : Byte) : Option SyncEdge :=
  match b.toNat with | 0 => some .rising | 1 => some .falling | _ => none
/-- Table 12-4. -/
def SyncEdge.code : SyncEdge → Byte | .rising => 0#8 | .falling => 1#8

/-- Table 12-4. -/
def parseGap (b : Byte) : Option GapPolicy :=
  match b.toNat with | 0 => some .openAll | 1 => some .quiet | _ => none
/-- Table 12-4. -/
def GapPolicy.code : GapPolicy → Byte | .openAll => 0#8 | .quiet => 1#8

/-- A stream number, 00h to 17h. -/
def parseStream (b : Byte) : Option StreamId := if h : b.toNat < numStreams then some ⟨b.toNat, h⟩ else none

/-- Table 12-4. A default stream: 00h to 17h, or FFh for NONE. -/
def parseDefaultStream (b : Byte) : Option (Option StreamId) :=
  if b = 0xFF#8 then some none else (parseStream b).map some
/-- A stream number, or FFh for none (R168). -/
def streamByte : Option StreamId → Byte | none => 0xFF#8 | some s => natByte s.val

/-- Table 12-4. Q, 00h to 0Fh. -/
def parseQ (b : Byte) : Option (BitVec 4) := if b.toNat < 16 then some (b.extractLsb' 0 4) else none

/-- Table 12-4. An attention mask byte whose Reserved bits 5 to 7 are 0. -/
def parseMask (b : Byte) : Option (BitVec 5) := if b.toNat < 32 then some (b.extractLsb' 0 5) else none

/-- 12.5. -/
def Mode.code : Mode → Byte | .pass => 0#8 | .engaging => 1#8 | .regulate => 2#8 | .quiescing => 3#8 | .quiesced => 4#8
/-- 7.1. The mode a return mode names. -/
def ReturnMode.mode : ReturnMode → Mode | .pass => .pass | .regulate => .regulate
/-- 12.5. -/
def TimerState.code : TimerState → Byte
  | .stopped => 0#8 | .free => 1#8 | .waitSync => 2#8 | .locked => 3#8 | .holdover => 4#8
/-- 12.5. -/
def PendingOp.code : PendingOp → Byte | .none => 0#8 | .commit => 1#8 | .engage => 2#8 | .quiesce => 3#8
/-- R170. Kind codes, in the order of Table 8-1. -/
def EventKind.code : EventKind → Nat
  | .refused => 0 | .late => 1 | .overBudget => 2 | .memoryError => 3 | .respTimeout => 4 | .lateResponse => 5
  | .unexpectedResponse => 6 | .syncEarly => 7 | .syncLost => 8 | .syncRegained => 9 | .commitDone => 10
  | .engaged => 11 | .disengaged => 12 | .quiesced => 13 | .operationCancelled => 14 | .streamClosed => 15
  | .resetDone => 16 | .overflow => 17

/-! ### Slot entries (Table 12-6) -/

/-- Table 12-6. -/
def parseOwner (b : Byte) : Option Owner :=
  match b.toNat with | 0 => some .stream | 1 => some .openAll | 2 => some .quiet | _ => none
/-- Table 12-6. -/
def Owner.code : Owner → Byte | .stream => 0#8 | .openAll => 1#8 | .quiet => 2#8

/-- R24. The five bytes of a slot entry: a known owner and lend, Reserved bits 0, and no stream number without a
STREAM owner. -/
def parseSlotEntry (o n l h w : Byte) : Option SlotEntry :=
  match parseOwner o, parseFlag l with
  | some owner, some lend =>
    if n.toNat < 32 ∧ h.toNat < 16 ∧ (owner = .stream ∨ n = 0#8) then
      some { owner := owner, number := n.extractLsb' 0 5, lend := lend, length := (h ++ w).extractLsb' 0 12 }
    else none
  | _, _ => none

/-- R24. The entries a WRITE_SLOTS carries; none when a byte is out of place. -/
def parseSlotEntries : List Byte → Option (List SlotEntry)
  | [] => some []
  | o :: n :: l :: h :: w :: rest =>
    match parseSlotEntry o n l h w, parseSlotEntries rest with
    | some e, some es => some (e :: es)
    | _, _ => none
  | _ => none

/-- Table 12-6. -/
def SlotEntry.bytes (e : SlotEntry) : List Byte :=
  e.owner.code :: BitVec.setWidth 8 e.number :: flagByte e.lend :: bytes16 (BitVec.setWidth 16 e.length)

/-! ### Event records (Table 12-7, R170) -/

/-- Table 12-7. The fifteen bytes of a record. -/
def EventRecord.bytes (r : EventRecord) : List Byte :=
  bytes16 (BitVec.ofNat 5 r.kind.code
      ++ BitVec.ofNat 5 (match r.stream with | some s => s.val | none => 31)
      ++ BitVec.ofNat 6 (match r.slot with | some k => k.val | none => 63))
    ++ (match r.request with
        | some (i, t) => [BitVec.setWidth 8 i, t]
        | none => [0xFF#8, 0x00#8])
    ++ bytes24 (BitVec.ofNat 24 r.detail) ++ bytes32 r.frame ++ bytes32 r.tick

/-! ### Counter groups (Table 12-8: the order of Tables 9-1 and 9-2) -/

/-- Table 9-1. -/
def StreamStats.counters (g : StreamStats) : List Word :=
  [g.admittedRequests, g.admittedUnits, g.refusedRequests, g.highWater, g.chargedUnits, g.borrowedUnits,
   g.lateRequests, g.slotsUsed, g.slotsIdle, g.slotsBlocked, g.completed, g.memoryErrors, g.timeouts, g.latencyMin,
   g.latencyMax, g.latencySum]

/-- Table 9-2. -/
def GlobalStats.counters (g : GlobalStats) : List Word :=
  [g.framesStarted, g.earlySyncs, g.glitches, g.syncLosses, g.syncRegains, g.passReleases, g.unexpected,
   g.lateResponses, g.timeouts, g.crcErrors, g.aborted, g.eventsLost]

/-- Table 12-8. Target byte of a group: 00h to 17h, or 40h for GLOBAL. -/
def GroupCopy.target : GroupCopy → Byte | .stream s _ => natByte s.val | .global _ => 0x40#8

/-- The counters of a copied group. -/
def GroupCopy.counters : GroupCopy → List Word | .stream _ g => g.counters | .global g => g.counters

/-- Table 12-8. The nine bytes that SNAPSHOT answers and READ_SNAPSHOT begins with. -/
def Snapshot.header (b : Snapshot) : List Byte := b.copy.target :: (bytes32 b.frame ++ bytes32 b.tick)

/-- Table 12-8. The payload of READ_SNAPSHOT. -/
def Snapshot.bytes (b : Snapshot) : List Byte := b.header ++ b.copy.counters.flatMap bytes32

/-! ### Settings block (Table 12-4) -/

/-- Table 12-4. The twelve bytes of the settings. -/
def Settings.bytes (c : Settings) : List Byte :=
  [c.prescaler.code, c.timing.code, flagByte c.fsyncOut, c.edge.code, BitVec.setWidth 8 c.q]
    ++ bytes16 c.syncTimeout ++ [c.gap.code, streamByte c.defaultStream] ++ bytes16 c.responseTimeout
    ++ [BitVec.setWidth 8 c.mask]

/-- A value of a WRITE command: `none` when its byte has no meaning in the field. -/
def pick {α : Type} (sel : Bool) (value : Option α) (old : α) : α := if sel then value.getD old else old

/-- A value passes its argument check when it is not selected or has a meaning (R168). -/
def fits {α : Type} (sel : Bool) (value : Option α) : Bool := !sel || value.isSome

/-- A WRITE_SETTINGS whose arguments pass R167's first check: its selection and the settings after the write. -/
structure SettingsWrite where
  sel : BitVec 16
  apply : Settings
deriving DecidableEq, Repr

/-- R167, R168. The first check of a WRITE_SETTINGS: 14 bytes, Reserved bits 0 (the mask's in any case), every
selected value in range. The result holds the present settings `c` with the selected ones replaced. -/
def parseSettingsWrite (c : Settings) (args : List Byte) : Option SettingsWrite :=
  match args with
  | [s1, s0, ps, ts, fo, se, q, st1, st0, gp, ds, rt1, rt0, am] =>
    let sel : BitVec 16 := s1 ++ s0
    if s1.toNat < 4 ∧ am.toNat < 32
        ∧ fits (sel.getLsbD 0) (parsePrescaler ps) ∧ fits (sel.getLsbD 1) (parseTiming ts)
        ∧ fits (sel.getLsbD 2) (parseFlag fo) ∧ fits (sel.getLsbD 3) (parseEdge se)
        ∧ fits (sel.getLsbD 4) (parseQ q) ∧ fits (sel.getLsbD 6) (parseGap gp)
        ∧ fits (sel.getLsbD 7) (parseDefaultStream ds) then
      some
        { sel := sel
          apply :=
            { prescaler := pick (sel.getLsbD 0) (parsePrescaler ps) c.prescaler
              timing := pick (sel.getLsbD 1) (parseTiming ts) c.timing
              fsyncOut := pick (sel.getLsbD 2) (parseFlag fo) c.fsyncOut
              edge := pick (sel.getLsbD 3) (parseEdge se) c.edge
              q := pick (sel.getLsbD 4) (parseQ q) c.q
              syncTimeout := pick (sel.getLsbD 5) (some (st1 ++ st0)) c.syncTimeout
              gap := pick (sel.getLsbD 6) (parseGap gp) c.gap
              defaultStream := pick (sel.getLsbD 7) (parseDefaultStream ds) c.defaultStream
              responseTimeout := pick (sel.getLsbD 8) (some (rt1 ++ rt0)) c.responseTimeout
              mask := pick (sel.getLsbD 9) (parseMask am) c.mask } }
    else none
  | _ => none

/-! ### Stream configuration block (Table 12-5) -/

/-- Table 12-5. The twenty-two bytes of the configuration fields. -/
def StreamEntry.configBytes (e : StreamEntry) : List Byte :=
  bytes32 e.initiatorSet ++ bytes24 e.pageBase ++ bytes24 e.pageLimit ++ [e.kinds.code] ++ bytes16 e.reload
    ++ [flagByte e.carry, e.overBudget.code, e.fullPolicy.code, flagByte e.openShare, e.queueLimit, e.reserve]
    ++ bytes16 e.deadline ++ [e.maxInFlight]

/-- A value from `lo` to `hi`. -/
def inRange (lo hi : Nat) (b : Byte) : Option Byte := if lo ≤ b.toNat ∧ b.toNat ≤ hi then some b else none

/-- A WRITE_STREAM whose argument bytes pass: stream, selection, and the entry with the selected fields replaced. -/
structure StreamWrite where
  stream : StreamId
  sel : BitVec 16
  entry : StreamEntry
deriving DecidableEq, Repr

/-- R3, first stage, R168. 25 bytes, stream number at most 23, Reserved selection bits 0, every selected value in
range, and the reserve after the write not above the queue limit after the write. -/
def parseStreamWrite (table : Table numStreams StreamEntry) (args : List Byte) : Option StreamWrite :=
  match args with
  | [n, s1, s0, i3, i2, i1, i0, b2, b1, b0, l2, l1, l0, kd, r1, r0, ca, ob, fp, os, ql, rs, d1, d0, mf] =>
    match parseStream n with
    | none => none
    | some k =>
      let e := table.get k
      let sel : BitVec 16 := s1 ++ s0
      let e' : StreamEntry :=
        { e with
          initiatorSet := pick (sel.getLsbD 0) (some (i3 ++ i2 ++ i1 ++ i0)) e.initiatorSet
          pageBase := pick (sel.getLsbD 1) (some (b2 ++ b1 ++ b0)) e.pageBase
          pageLimit := pick (sel.getLsbD 2) (some (l2 ++ l1 ++ l0)) e.pageLimit
          kinds := pick (sel.getLsbD 3) (parseKinds kd) e.kinds
          reload := pick (sel.getLsbD 4) (some (r1 ++ r0)) e.reload
          carry := pick (sel.getLsbD 5) (parseFlag ca) e.carry
          overBudget := pick (sel.getLsbD 6) (parseOverBudget ob) e.overBudget
          fullPolicy := pick (sel.getLsbD 7) (parseFullPolicy fp) e.fullPolicy
          openShare := pick (sel.getLsbD 8) (parseFlag os) e.openShare
          queueLimit := pick (sel.getLsbD 9) (inRange 1 128 ql) e.queueLimit
          reserve := pick (sel.getLsbD 10) (inRange 0 128 rs) e.reserve
          deadline := pick (sel.getLsbD 11) (some (d1 ++ d0)) e.deadline
          maxInFlight := pick (sel.getLsbD 12) (inRange 1 48 mf) e.maxInFlight }
      if s1.toNat < 32
          ∧ fits (sel.getLsbD 3) (parseKinds kd) ∧ fits (sel.getLsbD 5) (parseFlag ca)
          ∧ fits (sel.getLsbD 6) (parseOverBudget ob) ∧ fits (sel.getLsbD 7) (parseFullPolicy fp)
          ∧ fits (sel.getLsbD 8) (parseFlag os) ∧ fits (sel.getLsbD 9) (inRange 1 128 ql)
          ∧ fits (sel.getLsbD 10) (inRange 0 128 rs) ∧ fits (sel.getLsbD 12) (inRange 1 48 mf)
          ∧ e'.reserve.toNat ≤ e'.queueLimit.toNat then
        some { stream := k, sel := sel, entry := e' }
      else none
  | _ => none

end Sys2Proof.Machine
end

