-- ==== Sys2Proof/Machine/Ops.lean ====
section
/-! DEFINITION. The views of the state (values the spec says equal others) and the named updates of one place. -/
namespace Sys2Proof.Machine
open Sys2Proof

/-! ### Counting (5.1, R140) -/

/-- R140. A 32-bit counter raised by `n` stays at FFFFFFFFh once the rise would take it past that value. -/
def satAdd (c : Word) (n : Nat) : Word := if c.toNat + n < 2 ^ 32 then c + BitVec.ofNat 32 n else 0xFFFFFFFF#32

/-- R50, R51. A 16-bit count raised by 1, which stops at 65535. -/
def satSucc16 (n : Nat) : Nat := if n < maxCount16 then n + 1 else n

/-- R37. The difference of two tick stamps, modulo 2^32. -/
def elapsed (now base : Word) : Nat := (now - base).toNat

/-! ### Request Store (R7, R57, R58) -/

/-- The units of write data a queued request holds (R57). -/
def Descriptor.writeUnits (d : Descriptor) : Nat := if d.kind = .write then d.length else 0

/-- Stream `k`'s queue, oldest first. -/
def queueOf (s : State) (k : StreamId) : List Descriptor := s.store.queues.get k

/-- R7. Queued count. -/
def queuedCount (s : State) (k : StreamId) : Nat := (queueOf s k).length

/-- R7. Queued units: the lengths of reads and writes alike. -/
def queuedUnits (s : State) (k : StreamId) : Nat := ((queueOf s k).map (·.length)).sum

/-- Every request held in a stream queue, stream 0 first. -/
def streamHeld (s : State) : List Descriptor := s.store.queues.cells.flatten

/-- Every request held in the 24 stream queues and the pass queue. -/
def allHeld (s : State) : List Descriptor := streamHeld s ++ s.store.pass

/-- R57. Free descriptors. -/
def freeDescriptors (s : State) : Nat := numDescriptors - (allHeld s).length

/-- R57. Free data units. -/
def freeUnits (s : State) : Nat := numDataUnits - ((allHeld s).map Descriptor.writeUnits).sum

/-- The pass queue count. -/
def passCount (s : State) : Nat := s.store.pass.length

/-- R69. D: the sum over all streams of what each reserve exceeds its queued count by. -/
def reserveShortfall (s : State) : Nat :=
  ((List.finRange numStreams).map fun k => (s.streams.get k).reserve.toNat - queuedCount s k).sum

/-- R58. How far a request's admission sequence lies back from the next sequence value. -/
def seqAge (s : State) (d : Descriptor) : Nat := elapsed s.store.nextSeq d.seq

/-- R58. `a` is older than `b`. -/
def older (s : State) (a b : Descriptor) : Bool := seqAge s b < seqAge s a

/-- R119, R125. Requests in admission order, oldest first. -/
def admissionOrder (s : State) (ds : List Descriptor) : List Descriptor :=
  ds.insertionSort fun a b => seqAge s b ≤ seqAge s a

/-! ### Stream Table (R14) -/

/-- R14. The cap: the reload, or twice the reload with carry ON. -/
def StreamEntry.cap (e : StreamEntry) : Nat := if e.carry then 2 * e.reload.toNat else e.reload.toNat

/-- R64. The stream takes requests of kind `k`. -/
def Kinds.takes : Kinds → Kind → Bool
  | .both, _ => true
  | .read, k => k = .read
  | .write, k => k = .write

/-! ### Outstanding Table (R98, R112) -/

/-- The entry is FREE. -/
def Entry.isFree : Entry → Bool | .free => true | _ => false
/-- The entry is IN_FLIGHT. -/
def Entry.isInFlight : Entry → Bool | .inFlight _ => true | _ => false
/-- The entry is ORPHANED. -/
def Entry.isOrphaned : Entry → Bool | .orphaned _ => true | _ => false
/-- The entry is IN_FLIGHT and attributed to stream `k`. -/
def Entry.isInFlightOf (k : StreamId) : Entry → Bool | .inFlight h => h.stream = .stream k | _ => false

/-- R98. A stream's in-flight count. -/
def inFlightCount (s : State) (k : StreamId) : Nat := s.table.cells.countP (Entry.isInFlightOf k)

/-- R112. IN_FLIGHT entries. -/
def inFlightTotal (s : State) : Nat := s.table.cells.countP Entry.isInFlight

/-- R112. ORPHANED entries. -/
def orphanedTotal (s : State) : Nat := s.table.cells.countP Entry.isOrphaned

/-- R100. The lowest-numbered FREE entry. -/
def freeTag (s : State) : Option Tag := (List.finRange numTags).find? fun t => (s.table.get t).isFree

/-- The stream of an attribution, if it is one. -/
def Attribution.stream? : Attribution → Option StreamId | .stream k => some k | _ => none

/-- R111. An entry kept across the RESET command: its stream becomes NONE. -/
def Entry.forget : Entry → Entry
  | .free => .free
  | .inFlight h => .inFlight { h with stream := .nobody }
  | .orphaned h => .orphaned { h with stream := .nobody }

/-! ### Schedule Store (R21, R28) -/

/-- R21. The sum of the lengths of the used slots. -/
def Bank.frameLength (b : Bank) : Nat := ((b.entries.cells.take b.count).map (·.length.toNat)).sum

/-- The stream that owns a slot; none for an OPEN or QUIET slot (R94). -/
def SlotEntry.ownerStream (e : SlotEntry) : Option StreamId :=
  if e.owner = .stream then
    if h : e.number.toNat < numStreams then some ⟨e.number.toNat, h⟩ else none
  else none

/-- R28. The four checks. -/
inductive Check | count | length | owner | frame
deriving DecidableEq, Repr

/-- R28. Code of a failing check (12.3). -/
def Check.code : Check → Byte | .count => 1#8 | .length => 2#8 | .owner => 3#8 | .frame => 4#8

/-- R28. The check a used slot fails, LENGTH before OWNER. -/
def SlotEntry.fault (e : SlotEntry) : Option Check :=
  if e.length = 0#12 then some .length
  else if e.owner = .stream ∧ numStreams ≤ e.number.toNat then some .owner
  else none

/-- R28. The first used slot that fails, from index `k` upward. -/
def slotFault : Nat → List SlotEntry → Option (Check × Byte)
  | _, [] => none
  | k, e :: es =>
    match e.fault with
    | some c => some (c, natByte k)
    | none => slotFault (k + 1) es

/-- R28. The first failing check with its slot index, FFh for COUNT and FRAME; none when the bank is valid. -/
def Bank.fault (b : Bank) : Option (Check × Byte) :=
  if b.count = 0 ∨ numSlots < b.count then some (.count, 0xFF#8)
  else
    match slotFault 0 (b.entries.cells.take b.count) with
    | some f => some f
    | none => if maxFrameLength < b.frameLength then some (.frame, 0xFF#8) else none

/-- 2.2. The staged summary: slot count, and frame length in three bytes. -/
def Bank.summary (b : Bank) : List Byte := natByte b.count :: bytes24 (BitVec.ofNat 24 b.frameLength)

/-! ### Window (R53) -/

/-- R53. What the Frame Timer offers the Release Engine. -/
inductive Window | none | slot (k : SlotId) (e : SlotEntry) | gap (policy : GapPolicy)
deriving DecidableEq, Repr

/-- R53. -/
def window (s : State) : Window :=
  match s.timer.state with
  | .stopped => .none
  | .waitSync => .gap s.settings.gap
  | .free | .locked | .holdover =>
    match s.timer.slot with
    | some k => .slot k (s.active.entries.get k)
    | none => .none

/-- R46. The sync qualifier runs. -/
def qualifierRuns (s : State) : Bool :=
  match s.timer.state with | .waitSync | .locked | .holdover => true | .stopped | .free => false

/-- R45. The asserted level of a sync edge. -/
def SyncEdge.asserted : SyncEdge → Level | .rising => .high | .falling => .low

/-- The other level. -/
def otherLevel : Level → Level | .low => .high | .high => .low

/-- R45. The level the regulator drives on FSYNC; none when it does not drive the line. -/
def fsyncOut (s : State) : Option Level :=
  if s.settings.timing = .source ∧ s.settings.fsyncOut then
    some (if s.timer.pulse then s.settings.edge.asserted else otherLevel s.settings.edge.asserted)
  else none

/-- R159. The byte MDO carries; none while it is not driven. -/
def mdo (s : State) : Option Byte :=
  match s.link.receiver with
  | .idle => none
  | .receiving _ | .working => some 0x00#8
  | .responding p => some (((s.link.buffer.getD [])[p]?).getD 0x00#8)
  | .done => some 0xFF#8

/-! ### Updates of one place -/

/-- Change stream `k`'s entry. -/
def updStream (k : StreamId) (f : StreamEntry → StreamEntry) (s : State) : State :=
  s.withStreams (s.streams.set k (f (s.streams.get k)))

/-- Change stream `k`'s counter group. -/
def updStats (k : StreamId) (f : StreamStats → StreamStats) (s : State) : State :=
  s.withStats { s.stats with streams := s.stats.streams.set k (f (s.stats.streams.get k)) }

/-- Change the global counter group. -/
def updGlobals (f : GlobalStats → GlobalStats) (s : State) : State :=
  s.withStats { s.stats with globals := f s.stats.globals }

/-- Replace stream `k`'s queue. -/
def setQueue (k : StreamId) (q : List Descriptor) (s : State) : State :=
  s.withStore { s.store with queues := s.store.queues.set k q }

/-- Replace the pass queue. -/
def setPass (q : List Descriptor) (s : State) : State := s.withStore { s.store with pass := q }

/-- Replace Outstanding Table entry `t`. -/
def setEntry (t : Tag) (e : Entry) (s : State) : State := s.withTable (s.table.set t e)

/-- R153. The Upstream Port emits a response. -/
def emitUp (r : UpResponse) (s : State) : State := s.withPort { s.port with sent := s.port.sent ++ [r] }

end Sys2Proof.Machine
end

