-- ==== Sys2Proof/Machine/Flags.lean ====
section
/-! DEFINITION. The Event Queue and the flags it drives (chapter 8): storing and losing records, the latches, ATTN,
and the refusal of a request, which answers, counts and records at once (R72). -/
namespace Sys2Proof.Machine
open Sys2Proof

/-- Table 8-1. The category a kind fixes. -/
def EventKind.category : EventKind → Category
  | .refused | .late | .overBudget => .traffic
  | .memoryError | .respTimeout | .lateResponse | .unexpectedResponse => .memory
  | .syncEarly | .syncLost | .syncRegained => .timing
  | .commitDone | .engaged | .disengaged | .quiesced | .operationCancelled | .streamClosed | .resetDone => .control
  | .overflow => .overflow

/-- Table 12-4. The attention mask's bit for a category. -/
def Category.bit : Category → Nat | .traffic => 0 | .memory => 1 | .timing => 2 | .control => 3 | .overflow => 4

/-- R130. The record is the OVERFLOW record. -/
def EventRecord.isOverflow (r : EventRecord) : Bool := r.kind = .overflow

/-- R131. The OVERFLOW record's count rises by 1 and stays at 65535; other records stay as they are. -/
def EventRecord.countLoss (r : EventRecord) : EventRecord :=
  if r.isOverflow then { r with detail := satSucc16 r.detail } else r

/-- R131. The OVERFLOW record that stands for the first record lost. -/
def EventRecord.overflowFor (r : EventRecord) : EventRecord :=
  { kind := .overflow, stream := none, request := none, detail := 1, frame := r.frame, slot := r.slot, tick := r.tick }

/-- R130. An OVERFLOW record is in the queue. -/
def hasOverflow (rs : List EventRecord) : Bool := rs.any EventRecord.isOverflow

/-- R130. A presented record is lost. -/
def loses (rs : List EventRecord) : Bool := hasOverflow rs || !(rs.length < numOrdinaryRecords)

/-- R130, R131. The queue after record `r` is presented. -/
def storeRecord (rs : List EventRecord) (r : EventRecord) : List EventRecord :=
  if hasOverflow rs then rs.map EventRecord.countLoss
  else if rs.length < numOrdinaryRecords then rs ++ [r]
  else rs ++ [r.overflowFor]

/-- R131, R146. A lost record raises the events-lost counter. -/
def GlobalStats.lose (lost : Bool) (g : GlobalStats) : GlobalStats :=
  if lost then { g with eventsLost := satAdd g.eventsLost 1 } else g

/-- R130, R131. Present a record: it is stored or lost, and a lost one is counted. -/
def present (r : EventRecord) (s : State) : State :=
  (s.withEvents { s.events with records := storeRecord s.events.records r }).withStats
    { s.stats with globals := s.stats.globals.lose (loses s.events.records) }

/-- R128. A record of this instant: the Frame Timer's frame number and the tick counter. -/
def recordNow (kind : EventKind) (stream : Option StreamId) (request : Option (BitVec 5 × Byte)) (detail : Nat)
    (slot : Option SlotId) (s : State) : State :=
  present { kind := kind, stream := stream, request := request, detail := detail, frame := s.timer.frame,
            slot := slot, tick := s.timer.tick } s

/-- R126, R129. A record of the CONTROL kinds and of SYNC_LOST and SYNC_REGAINED: no stream, no request, slot none. -/
def recordControl (kind : EventKind) (detail : Nat) (s : State) : State := recordNow kind none none detail none s

/-- R137. The ATTN output is asserted. -/
def attn (s : State) : Bool := s.events.records.any fun r => s.settings.mask.getLsbD r.kind.category.bit

/-- R72, R135. Record a REFUSED event subject to its latch, and set the latch. -/
def recordRefused (initiator : BitVec 5) (transaction : Byte) (reason : Reason) (stream : Option StreamId)
    (s : State) : State :=
  match stream with
  | some k =>
    if (s.streams.get k).refusedSeen then s
    else updStream k (fun e => { e with refusedSeen := true })
      (recordNow .refused (some k) (some (initiator, transaction)) reason.code s.timer.slot s)
  | none =>
    if s.events.portRefuseSeen then s
    else
      let s' := recordNow .refused none (some (initiator, transaction)) reason.code s.timer.slot s
      s'.withEvents { s'.events with portRefuseSeen := true }

/-- R72, R141. With the stream determined, its refused-requests counter rises by 1. -/
def countRefused (stream : Option StreamId) (s : State) : State :=
  match stream with
  | some k => updStats k (fun g => { g with refusedRequests := satAdd g.refusedRequests 1 }) s
  | none => s

/-- R72. A refusal: the REFUSED response, the counter, and the event. -/
def refuseRequest (initiator : BitVec 5) (transaction : Byte) (reason : Reason) (stream : Option StreamId)
    (s : State) : State :=
  recordRefused initiator transaction reason stream
    (countRefused stream
      (emitUp { initiator := initiator, transaction := transaction, status := .refused reason, data := [] } s))

end Sys2Proof.Machine
end

