-- ==== Sys2Proof/Machine/Admission.lean ====
section
/-! DEFINITION. Admission (chapter 4): the decision for an offered request, the re-evaluation of the stalled request,
and the deadline monitoring of queued requests. -/
namespace Sys2Proof.Machine
open Sys2Proof

/-! ### The decision (R59 to R71) -/

/-- R61. The page of a unit: its unit address divided by 128. -/
def pageOf (unit : Nat) : Nat := unit / 128

/-- R61. Length 0 or 9 to 15, or first and last unit in different pages. -/
def malformed (r : UpRequest) : Bool :=
  r.length = 0 || 8 < r.length || pageOf r.unitAddr.toNat ≠ pageOf (r.unitAddr.toNat + r.length - 1)

/-- R62. The initiator and transaction number of the requests that are queued or IN_FLIGHT. -/
def heldTags (s : State) : List (BitVec 5 × Byte) :=
  (allHeld s).map (fun d => (d.initiator, d.transaction))
    ++ s.table.cells.filterMap fun
        | .inFlight h => some (h.initiator, h.transaction)
        | _ => none

/-- R62. The request's tag is held queued or IN_FLIGHT. -/
def duplicate (s : State) (r : UpRequest) : Bool := (heldTags s).contains (r.initiator, r.transaction)

/-- The units of write data a request would take (R57). -/
def UpRequest.writeUnits (r : UpRequest) : Nat := if r.kind = .write then r.length else 0

/-- R63. A descriptor is free and the write data fits. -/
def passFits (s : State) (r : UpRequest) : Bool :=
  1 ≤ freeDescriptors s && UpRequest.writeUnits r ≤ freeUnits s

/-- R64. The entry is enabled and matches on initiator, page window and kind. -/
def StreamEntry.captures (e : StreamEntry) (r : UpRequest) : Bool :=
  e.state ≠ .disabled && e.initiatorSet.getLsbD r.initiator.toNat
    && e.pageBase.toNat ≤ pageOf r.unitAddr.toNat && pageOf r.unitAddr.toNat ≤ e.pageLimit.toNat
    && e.kinds.takes r.kind

/-- R64, R65. The first entry from S0 upward that captures the request, else the default stream. -/
def classify (s : State) (r : UpRequest) : Option StreamId :=
  match (List.finRange numStreams).find? fun k => (s.streams.get k).captures r with
  | some k => some k
  | none => s.settings.defaultStream

/-- R69. A descriptor is grantable for a request of stream `k`. -/
def grantable (s : State) (k : StreamId) : Bool :=
  if queuedCount s k < (s.streams.get k).reserve.toNat then 1 ≤ freeDescriptors s
  else reserveShortfall s + 1 ≤ freeDescriptors s

/-- R68. The capacity step. -/
def capacity (s : State) (k : StreamId) (r : UpRequest) : Bool :=
  queuedCount s k < (s.streams.get k).queueLimit.toNat && grantable s k && UpRequest.writeUnits r ≤ freeUnits s

/-- R67. The budget step refuses: policy REFUSE, and length plus queued units above the credit. -/
def overBudget (s : State) (k : StreamId) (r : UpRequest) : Bool :=
  (s.streams.get k).overBudget = .refuse && (s.streams.get k).credit < r.length + queuedUnits s k

/-- R59. The outcome of an evaluation. -/
inductive Verdict
  | stall
  | refused (reason : Reason) (stream : Option StreamId)
  | toPass
  | toStream (k : StreamId)
deriving DecidableEq, Repr

/-- R59, steps 5 to 8, for the stream determined. -/
def judgeStream (s : State) (r : UpRequest) (k : StreamId) : Verdict :=
  if (s.streams.get k).state = .disabled ∨ (s.streams.get k).state = .draining then .refused .closed (some k)
  else if overBudget s k r then .refused .overBudget (some k)
  else if capacity s k r then .toStream k
  else
    match (s.streams.get k).fullPolicy with
    | .refuse => .refused .full (some k)
    | .stall => .stall

/-- R59. The steps in order; the first that refuses, stalls or accepts decides. -/
def judge (s : State) (r : UpRequest) : Verdict :=
  if s.ctl.mode = .quiescing ∨ s.ctl.mode = .quiesced then .stall
  else if malformed r then .refused .malformed none
  else if duplicate s r then .refused .duplicate none
  else if s.ctl.mode = .pass then (if passFits s r then .toPass else .stall)
  else
    match classify s r with
    | none => .refused .unclassified none
    | some k => judgeStream s r k

/-! ### Its effects (R63, R70 to R72, R151) -/

/-- R71. The descriptor of an accepted request: sequence and tick of this instant, counted late clear. -/
def newDescriptor (s : State) (r : UpRequest) : Descriptor :=
  { initiator := r.initiator, transaction := r.transaction, kind := r.kind, unitAddr := r.unitAddr,
    length := r.length, group := r.group, data := r.data, seq := s.store.nextSeq, admTick := s.timer.tick,
    late := false }

/-- R151. What the offer place holds after an evaluation. -/
def setOffer (o : Option UpRequest) (s : State) : State := s.withPort { s.port with offer := o }

/-- R58, R63. Acceptance into the pass queue. -/
def acceptPass (r : UpRequest) (s : State) : State :=
  s.withStore { s.store with pass := s.store.pass ++ [newDescriptor s r], nextSeq := s.store.nextSeq + 1 }

/-- R141. The admission counters of an acceptance that leaves `count` requests queued. -/
def StreamStats.countAccepted (length count : Nat) (g : StreamStats) : StreamStats :=
  { g with
    admittedRequests := satAdd g.admittedRequests 1
    admittedUnits := satAdd g.admittedUnits length
    highWater := if g.highWater.toNat < count then BitVec.ofNat 32 count else g.highWater }

/-- R94. An acceptance into the owner's queue is seen by the running slot's record. -/
def Engine.see (k : StreamId) (e : Engine) : Engine :=
  { e with outcome := e.outcome.map fun o => if o.owner = some k then { o with seen := true } else o }

/-- R58, R71. Acceptance into stream `k`'s queue. -/
def acceptStream (k : StreamId) (r : UpRequest) (s : State) : State :=
  let q := queueOf s k ++ [newDescriptor s r]
  let s1 := s.withStore { s.store with queues := s.store.queues.set k q, nextSeq := s.store.nextSeq + 1 }
  let s2 := updStats k (StreamStats.countAccepted r.length q.length) s1
  s2.withEngine (s2.engine.see k)

/-- R59, R70 to R72, R151. Evaluate a request: it becomes a descriptor, or is answered, or stays in the offer place. -/
def evaluate (r : UpRequest) (s : State) : State :=
  match judge s r with
  | .stall => setOffer (some r) s
  | .refused reason k => refuseRequest r.initiator r.transaction reason k (setOffer none s)
  | .toPass => acceptPass r (setOffer none s)
  | .toStream k => acceptStream k r (setOffer none s)

/-- R73. The stalled request, if any, is evaluated again from step 1. -/
def reevaluate (s : State) : State :=
  match s.port.offer with
  | none => s
  | some r => evaluate r s

/-- REQUEST_OFFER (R59, R151). An offer is made only to an EMPTY offer place: while a request is stalled there the
interconnect's next one is not taken (log entry 16). -/
def execRequestOffer (header : BitVec 64) (data : List DataUnit) (s : State) : Result :=
  match s.port.offer with
  | none => .next (evaluate (decodeUpRequest header data) s)
  | some _ => .next s

/-! ### Deadlines (R75, R76) -/

/-- R75. A request in stream `k`'s queue is due to cross: a non-zero deadline, not counted late, its age at or past
the deadline (log entry 21). -/
def crossingDue (s : State) (k : StreamId) (d : Descriptor) : Bool :=
  (s.streams.get k).deadline ≠ 0#16 && !d.late && (s.streams.get k).deadline.toNat ≤ elapsed s.timer.tick d.admTick

/-- The first request satisfying `p` is marked counted late. -/
def markLate (p : Descriptor → Bool) : List Descriptor → List Descriptor
  | [] => []
  | d :: ds => if p d then { d with late := true } :: ds else d :: markLate p ds

/-- R75. The crossing of request `d`, the first that is due in stream `k`'s queue. -/
def cross (k : StreamId) (d : Descriptor) (s : State) : State :=
  let s1 := setQueue k (markLate (crossingDue s k) (queueOf s k)) s
  let s2 := updStats k (fun g => { g with lateRequests := satAdd g.lateRequests 1 }) s1
  if (s.streams.get k).lateSeen then s2
  else
    updStream k (fun e => { e with lateSeen := true })
      (recordNow .late (some k) (some (d.initiator, d.transaction)) (s.streams.get k).deadline.toNat s.timer.slot s2)

/-- R75. The oldest request due in stream `k`'s queue. -/
def firstDue (s : State) (k : StreamId) : Option Descriptor := (queueOf s k).find? (crossingDue s k)

/-- R75. The older of two candidates. -/
def olderDue (s : State) (best : Option (StreamId × Descriptor)) (k : StreamId) : Option (StreamId × Descriptor) :=
  match firstDue s k, best with
  | none, b => b
  | some d, none => some (k, d)
  | some d, some (j, b) => if older s d b then some (k, d) else some (j, b)

/-- R75. The oldest request that is due in any stream's queue. -/
def oldestDue (s : State) : Option (StreamId × Descriptor) := (List.finRange numStreams).foldl (olderDue s) none

/-- R75. One crossing, the oldest that is due; nothing when none is. -/
def crossOldest (s : State) : State :=
  match oldestDue s with
  | none => s
  | some (k, d) => cross k d s

/-- R6. One crossing in stream `k`'s queue, the oldest that is due; nothing when none is. -/
def crossIn (k : StreamId) (s : State) : State :=
  match firstDue s k with
  | none => s
  | some d => cross k d s

/-- DEADLINE_CROSSING (R75). Where several requests are due they cross in admission order: this is the oldest. -/
def execDeadlineCrossing (s : State) : Result := .next (crossOldest s)

end Sys2Proof.Machine
end

