-- ==== Sys2Proof/Machine/Completion.lean ====
section
/-! DEFINITION. The completions that a change of a count brings about at its own instant: the automatic close of a
DRAINING stream (R12), and the completion of a quiesce (R122), with the re-evaluation they cause (R73). -/
namespace Sys2Proof.Machine
open Sys2Proof

/-- R12. Stream `k` is DRAINING with queued count and in-flight count both 0. -/
def drained (s : State) (k : StreamId) : Bool :=
  (s.streams.get k).state = .draining && queuedCount s k = 0 && inFlightCount s k = 0

/-- R11, R12. Stream `k` enters DISABLED by a close: its credit becomes 0 and STREAM_CLOSED is recorded with `detail`,
00h IMMEDIATE or 01h DRAINED (R129, R170). -/
def closeStream (k : StreamId) (detail : Nat) (s : State) : State :=
  recordNow .streamClosed (some k) none detail s.timer.slot
    (updStream k (fun e => { e with state := .disabled, credit := 0 }) s)

/-- R12. The automatic close, where its condition holds. -/
def closeIfDrained (k : StreamId) (s : State) : State := if drained s k then closeStream k 1 s else s

/-- R122. Every queue that must empty is empty: the stream queues but those of PAUSED streams, or the pass queue. -/
def quiesceQueues (s : State) : Bool :=
  match s.ctl.returnMode with
  | .regulate => (List.finRange numStreams).all fun k => queuedCount s k = 0 || (s.streams.get k).state = .paused
  | .pass => passCount s = 0

/-- R122. The mode is QUIESCING and the quiesce completion condition holds. -/
def quiesceDue (s : State) : Bool := s.ctl.mode = .quiescing && quiesceQueues s && inFlightTotal s = 0

/-- R122. The quiesce completes. The detail is the return mode's code (R170). -/
def completeQuiesce (s : State) : State :=
  recordControl .quiesced s.ctl.returnMode.mode.code.toNat
    (s.withCtl { s.ctl with mode := .quiesced, pendingOp := .none })

/-- R122. The completion of the quiesce, where its condition holds. -/
def quiesceIfDue (s : State) : State := if quiesceDue s then completeQuiesce s else s

/-- R12, for the stream of an attribution. -/
def closeOf (a : Option StreamId) (s : State) : State :=
  match a with
  | some k => closeIfDrained k s
  | none => s

/-- A stream closes at the change of its counts. -/
def closesOf (a : Option StreamId) (s : State) : Bool :=
  match a with
  | some k => drained s k
  | none => false

/-- R7, R122, R132. A change of an in-flight count: the automatic close, then the quiesce completion; a stalled request
is evaluated again when either was made (R73). -/
def settleCounts (a : Option StreamId) (s : State) : State :=
  let s1 := closeOf a s
  let s2 := quiesceIfDue s1
  if closesOf a s || quiesceDue s1 then reevaluate s2 else s2

/-- QUIESCE_COMPLETION (R122, R73). No effect while its condition does not hold (log entries 1 and 6). -/
def execQuiesceCompletion (s : State) : Result :=
  .next (if quiesceDue s then reevaluate (completeQuiesce s) else s)

/-- STREAM_AUTOMATIC_CLOSE (R12, R73, R122). No effect while its condition does not hold (log entries 1 and 6). -/
def execStreamAutomaticClose (k : StreamId) (s : State) : Result :=
  .next (if drained s k then settleCounts (some k) s else s)

end Sys2Proof.Machine
end

