-- ==== Sys2Proof/Machine/Outstanding.lean ====
section
/-! DEFINITION. The Outstanding Table's events (chapter 6): response arrivals and response timeouts. -/
namespace Sys2Proof.Machine
open Sys2Proof

/-- R104, R144. A completed response with its latency. -/
def StreamStats.complete (latency : Nat) (g : StreamStats) : StreamStats :=
  { g with
    completed := satAdd g.completed 1
    latencyMin := if latency < g.latencyMin.toNat then BitVec.ofNat 32 latency else g.latencyMin
    latencyMax := if g.latencyMax.toNat < latency then BitVec.ofNat 32 latency else g.latencyMax
    latencySum := satAdd g.latencySum latency }

/-- R103, R144. A memory error of a stream. -/
def StreamStats.memoryError (g : StreamStats) : StreamStats := { g with memoryErrors := satAdd g.memoryErrors 1 }

/-- R106, R144. A timeout of a stream. -/
def StreamStats.timeout (g : StreamStats) : StreamStats := { g with timeouts := satAdd g.timeouts 1 }

/-- Change the group of an attribution's stream, if it is one. -/
def updStatsOf (a : Attribution) (f : StreamStats → StreamStats) (s : State) : State :=
  match a with
  | .stream k => updStats k f s
  | _ => s

/-- R102. The upstream status of a forwarded response. -/
def forwardStatus (ok : Bool) : UpStatus := if ok then .ok else .memoryError

/-- R102, R156. The read data forwarded: that of an OK response to a READ. -/
def forwardData (h : Held) (r : DownResponse) : List DataUnit := if r.ok ∧ h.kind = .read then r.data else []

/-- The stream that a record of the entry carries: S0 to S23, else none (R103, R106, R109). -/
def Held.eventStream (h : Held) : Option StreamId := h.stream.stream?

/-- R103. A memory error's record and counter. -/
def reportError (t : Tag) (h : Held) (s : State) : State :=
  recordNow .memoryError h.eventStream (some (h.initiator, h.transaction)) t.val s.timer.slot
    (updStatsOf h.stream StreamStats.memoryError s)

/-- R102 to R104. The response for IN_FLIGHT entry `t` is forwarded and the entry becomes FREE. -/
def forward (t : Tag) (h : Held) (r : DownResponse) (s : State) : State :=
  let s1 := emitUp { initiator := h.initiator, transaction := h.transaction, status := forwardStatus r.ok,
                     data := forwardData h r } s
  let s2 := if r.ok then s1 else reportError t h s1
  let s3 := updStatsOf h.stream (StreamStats.complete (elapsed s.timer.tick h.admTick)) s2
  settleCounts h.eventStream (setEntry t .free s3)

/-- R109. A late response: discarded, counted, recorded; the entry becomes FREE. -/
def lateResponse (t : Tag) (h : Held) (s : State) : State :=
  recordNow .lateResponse h.eventStream (some (h.initiator, h.transaction)) t.val s.timer.slot
    (updGlobals (fun g => { g with lateResponses := satAdd g.lateResponses 1 }) (setEntry t .free s))

/-- R110. An unexpected response: discarded, counted, recorded. -/
def unexpectedResponse (tag : BitVec 6) (s : State) : State :=
  recordNow .unexpectedResponse none none tag.toNat s.timer.slot
    (updGlobals (fun g => { g with unexpected := satAdd g.unexpected 1 }) s)

/-- R101. A response arrival, decided by the state of the entry its tag names. -/
def arrive (r : DownResponse) (s : State) : State :=
  if h : r.tag.toNat < numTags then
    match s.table.get ⟨r.tag.toNat, h⟩ with
    | .inFlight e => forward ⟨r.tag.toNat, h⟩ e r s
    | .orphaned e => lateResponse ⟨r.tag.toNat, h⟩ e s
    | .free => unexpectedResponse r.tag s
  else unexpectedResponse r.tag s

/-- RESPONSE_ARRIVAL (R101 to R104, R109, R110). -/
def execResponseArrival (header : BitVec 32) (data : List DataUnit) (s : State) : Result :=
  .next (arrive (decodeDownResponse header data) s)

/-- R105. Entry `t` is IN_FLIGHT and its age is at or past a non-zero response timeout (log entry 21). -/
def expiryDue (s : State) (t : Tag) : Option Held :=
  match s.table.get t with
  | .inFlight h =>
    if s.settings.responseTimeout ≠ 0#16 ∧ s.settings.responseTimeout.toNat ≤ elapsed s.timer.tick h.relTick then
      some h
    else none
  | _ => none

/-- R106. The expiry of entry `t`. -/
def expire (t : Tag) (h : Held) (s : State) : State :=
  let s1 := emitUp { initiator := h.initiator, transaction := h.transaction, status := .timeout, data := [] } s
  let s2 := updStatsOf h.stream StreamStats.timeout (setEntry t (.orphaned h) s1)
  let s3 := updGlobals (fun g => { g with timeouts := satAdd g.timeouts 1 }) s2
  settleCounts h.eventStream
    (recordNow .respTimeout h.eventStream (some (h.initiator, h.transaction)) t.val s3.timer.slot s3)

/-- R105. The expiry of entry `t`, where it is due. -/
def expireIfDue (t : Tag) (s : State) : State :=
  match expiryDue s t with
  | some h => expire t h s
  | none => s

/-- R105. Every entry that is due expires, from the lowest tag. -/
def expireAll (s : State) : State := (List.finRange numTags).foldl (fun s t => expireIfDue t s) s

/-- RESPONSE_TIMEOUT_EXPIRY (R105, R106). No effect while entry `t` is not due (log entry 1). -/
def execResponseTimeoutExpiry (t : Tag) (s : State) : Result := .next (expireIfDue t s)

end Sys2Proof.Machine
end

