-- ==== Sys2Proof/Machine/Timing.lean ====
section
/-! DEFINITION. The Frame Timer's events (chapter 3), with what belongs to them at the other blocks: the completion of a
commit (R30, R31), the renewal of credit (R15), the slot-outcome record and its classification (R94 to R96). -/
namespace Sys2Proof.Machine
open Sys2Proof

/-! ### Slot outcomes (R94 to R96) -/

/-- R94. The fresh record of slot `k`, whose entry is `e`. -/
def freshOutcome (s : State) (k : SlotId) (e : SlotEntry) : SlotOutcome :=
  { slot := k, owner := e.ownerStream, released := false
    seen := match e.ownerStream with | some j => 0 < queuedCount s j | none => false }

/-- R41, R94. Slot `k` of the active bank begins. -/
def beginSlot (k : SlotId) (s : State) : State :=
  let e := s.active.entries.get k
  (s.withTimer { s.timer with slot := some k, down := e.length.toNat }).withEngine
    { s.engine with outcome := some (freshOutcome s k e) }

/-- R95, R143. The counter that a slot's outcome raises. -/
def StreamStats.slot (o : SlotOutcome) (g : StreamStats) : StreamStats :=
  if o.released then { g with slotsUsed := satAdd g.slotsUsed 1 }
  else if o.seen then { g with slotsBlocked := satAdd g.slotsBlocked 1 }
  else { g with slotsIdle := satAdd g.slotsIdle 1 }

/-- R96. A BLOCKED slot whose head is short of credit records OVER_BUDGET, subject to HELD_SEEN. -/
def recordHeld (o : SlotOutcome) (k : StreamId) (s : State) : State :=
  match queueOf s k with
  | [] => s
  | d :: _ =>
    if o.released || !o.seen || d.length ≤ (s.streams.get k).credit || (s.streams.get k).heldSeen then s
    else
      updStream k (fun e => { e with heldSeen := true })
        (recordNow .overBudget (some k) (some (d.initiator, d.transaction)) (s.streams.get k).credit (some o.slot) s)

/-- R95. The end of a slot consumes its record: an owned slot is classified for its owner. -/
def classifySlot (s : State) : State :=
  match s.engine.outcome with
  | none => s
  | some o =>
    let s1 := s.withEngine { s.engine with outcome := none }
    match o.owner with
    | none => s1
    | some k => recordHeld o k (updStats k (StreamStats.slot o) s1)

/-! ### Frame starts (R43) -/

/-- R30, R31. The staged bank becomes the active bank, no operation is pending, COMMIT_DONE is recorded. -/
def completeCommit (s : State) : State :=
  recordControl .commitDone s.staged.count
    ((s.withActive s.staged).withCtl { s.ctl with pendingOp := .none })

/-- R31. At a frame start a pending COMMIT completes. -/
def commitAtFrame (s : State) : State := if s.ctl.pendingOp = .commit then completeCommit s else s

/-- R15. The renewal of a stream's credit. -/
def StreamEntry.renew (e : StreamEntry) : StreamEntry :=
  if e.state = .disabled then e
  else if e.carry then { e with credit := min (e.credit + e.reload.toNat) (2 * e.reload.toNat) }
  else { e with credit := e.reload.toNat }

/-- R15. Every stream's credit is renewed. -/
def renewCredits (s : State) : State := s.withStreams (s.streams.map StreamEntry.renew)

/-- R43, R45. What the Frame Timer itself does before slot 0 begins: the frame number rises, and in FREE with the
output enabled the sync pulse starts. -/
def Timer.startFrame (outputOn : Bool) (t : Timer) : Timer :=
  { t with frame := t.frame + 1, frameTick := t.tick, pulse := t.state = .free && outputOn }

/-- R31, R43, R132. A frame start. `loss` is the SYNC_LOST or SYNC_REGAINED record that it brings, with its detail. -/
def frameStart (loss : Option (EventKind × Nat)) (s : State) : State :=
  let s1 := s.withTimer (s.timer.startFrame s.settings.fsyncOut)
  let s2 := match loss with
    | some (kind, detail) => recordControl kind detail s1
    | none => s1
  let s3 := beginSlot 0 (renewCredits (commitAtFrame s2))
  updGlobals (fun g => { g with framesStarted := satAdd g.framesStarted 1 }) s3

/-! ### Start and stop (R39, R40) -/

/-- R39. The timer leaves STOPPED. -/
def startTimer (s : State) : State :=
  match s.settings.timing with
  | .source => frameStart none (s.withTimer { s.timer with state := .free })
  | .follow =>
    s.withTimer
      { s.timer with
        state := .waitSync, slot := none, down := 0, waitCount := 0, qualifier := .idle, reference := s.timer.line,
        sample := s.timer.line }

/-- R40. What a stop does to the Frame Timer. -/
def Timer.stop (t : Timer) : Timer :=
  { t with state := .stopped, slot := none, down := 0, qualifier := .idle, waitCount := 0, holdover := 0, pulse := false }

/-- R40, R77. A stop: the running slot's record is discarded unclassified. -/
def stopTimer (s : State) : State := (s.withTimer s.timer.stop).withEngine { s.engine with outcome := none }

/-! ### Slot end (R41, R42) -/

/-- R41. The slot's down-counter has reached 0. -/
def slotEndDue (s : State) : Bool := s.timer.state ≠ .stopped && s.timer.slot.isSome && s.timer.down = 0

/-- R41. The slot after slot `k`, while `k` is below the slot count minus 1. -/
def nextSlot (b : Bank) (k : SlotId) : Option SlotId :=
  if h : k.val + 1 < b.count ∧ k.val + 1 < numSlots then some ⟨k.val + 1, h.2⟩ else none

/-- R42. The last used slot has run out. -/
def endFrame (s : State) : State :=
  match s.timer.state with
  | .free => reevaluate (frameStart none s)
  | .holdover => reevaluate (frameStart none (s.withTimer { s.timer with holdover := satSucc16 s.timer.holdover }))
  | .locked => s.withTimer { s.timer with state := .waitSync, slot := none, waitCount := 0 }
  | .stopped | .waitSync => s

/-- R41, R42. The running slot ends by running out. -/
def endSlot (s : State) : State :=
  match s.timer.slot with
  | none => s
  | some k =>
    match nextSlot s.active k with
    | some j => beginSlot j (classifySlot s)
    | none => endFrame (classifySlot s)

/-- SLOT_END. No effect while no slot end is due (log entry 1). -/
def slotEndIfDue (s : State) : State := if slotEndDue s then endSlot s else s

/-- SLOT_END (R41, R42). -/
def execSlotEnd (s : State) : Result := .next (slotEndIfDue s)

/-! ### Following FSYNC (R46 to R51) -/

/-- R46. The sample of FSYNC at the last tick is judged: a chosen edge starts qualifying, an opposite change moves the
reference level, a return to the reference level is a glitch. -/
def judgeSample (s : State) : State :=
  if qualifierRuns s then
    match s.timer.qualifier with
    | .idle =>
      if s.timer.sample = s.timer.reference then s
      else if s.timer.sample = s.settings.edge.asserted then s.withTimer { s.timer with qualifier := .qualifying 0 }
      else s.withTimer { s.timer with reference := s.timer.sample }
    | .qualifying _ =>
      if s.timer.sample = s.timer.reference then
        updGlobals (fun g => { g with glitches := satAdd g.glitches 1 })
          (s.withTimer { s.timer with qualifier := .idle })
      else s
  else s

/-- FSYNC_EDGE (R46). FSYNC has changed to `level`. The change is seen when it is the level of the last tick's sample
(log entry 5). -/
def execFsyncEdge (level : Level) (s : State) : Result :=
  let s1 := s.withTimer { s.timer with line := level }
  .next (if level = s.timer.sample then judgeSample s1 else s1)

/-- R46. The qualifying count has reached Q (at once when Q is 0). -/
def qualificationDue (s : State) : Bool :=
  qualifierRuns s &&
    match s.timer.qualifier with
    | .qualifying c => s.settings.q.toNat ≤ c
    | .idle => false

/-- R47. An early sync: counted, and recorded subject to EARLY_SEEN. -/
def earlySync (s : State) : State :=
  let s1 := updGlobals (fun g => { g with earlySyncs := satAdd g.earlySyncs 1 }) s
  if s1.events.earlySeen then s1
  else
    let s2 := recordNow .syncEarly none none (elapsed s.timer.tick s.timer.frameTick) s.timer.slot s1
    s2.withEvents { s2.events with earlySeen := true }

/-- R49. A sync that qualifies in WAIT_SYNC. -/
def endWait (s : State) : State :=
  frameStart none (s.withTimer { s.timer with state := .locked, waitCount := 0, holdover := 0 })

/-- R51. A sync that qualifies in HOLDOVER. -/
def regainSync (s : State) : State :=
  let s1 := updGlobals (fun g => { g with syncRegains := satAdd g.syncRegains 1 }) (classifySlot s)
  frameStart (some (.syncRegained, s.timer.holdover)) (s1.withTimer { s1.timer with state := .locked, holdover := 0 })

/-- R46 to R51. A sync qualifies: the qualifier returns to IDLE with the new reference level, and the sync acts by the
timer state. -/
def qualify (s : State) : State :=
  let s1 := s.withTimer { s.timer with qualifier := .idle, reference := s.settings.edge.asserted }
  match s.timer.state with
  | .waitSync => reevaluate (endWait s1)
  | .holdover => reevaluate (regainSync s1)
  | .locked =>
    match s.timer.slot with
    | none => s1
    | some k =>
      if k.val + 1 < s.active.count then earlySync s1
      else reevaluate (frameStart none (classifySlot s1))
  | .stopped | .free => s1

/-- R46. The qualification, where it is due. -/
def qualifyIfDue (s : State) : State := if qualificationDue s then qualify s else s

/-- SYNC_QUALIFICATION (R46 to R51). No effect while no qualification is due (log entry 1). -/
def execSyncQualification (s : State) : Result := .next (qualifyIfDue s)

/-- R50. The wait count has reached a non-zero sync timeout. -/
def syncTimeoutDue (s : State) : Bool :=
  s.timer.state = .waitSync && s.settings.syncTimeout ≠ 0#16 && s.settings.syncTimeout.toNat ≤ s.timer.waitCount

/-- R50. The sync timeout expires. -/
def expireSync (s : State) : State :=
  let s1 := s.withTimer { s.timer with state := .holdover, waitCount := 0, holdover := 1 }
  let s2 := updGlobals (fun g => { g with syncLosses := satAdd g.syncLosses 1 }) s1
  reevaluate (frameStart (some (.syncLost, s.settings.syncTimeout.toNat)) s2)

/-- R50. The expiry, where it is due. -/
def expireSyncIfDue (s : State) : State := if syncTimeoutDue s then expireSync s else s

/-- SYNC_TIMEOUT_EXPIRY (R50). No effect while it is not due (log entry 1). -/
def execSyncTimeoutExpiry (s : State) : Result := .next (expireSyncIfDue s)

/-! ### Commit completion (R31) -/

/-- R43. The due event that makes a frame start at this instant, a qualification before a slot end before an expiry. -/
def frameEvent (s : State) : State :=
  if qualificationDue s then qualify s
  else if slotEndDue s then endSlot s
  else expireSyncIfDue s

/-- COMMIT_COMPLETION (R31). A pending COMMIT completes within a frame start, so the command takes the due event that
makes one; where that event made no frame start, the COMMIT stays pending and nothing happens (log entry 7). -/
def execCommitCompletion (s : State) : Result :=
  .next
    (if s.ctl.pendingOp = .commit then
      let t := frameEvent s
      if t.ctl.pendingOp = .none then t else s
     else s)

end Sys2Proof.Machine
end

