-- ==== Sys2Proof/Machine/Release.lean ====
section
/-! DEFINITION. The Release Engine (chapter 5): eligibility, selection by mode and window, charging, hand-off; and the
completion of an engagement, which a release brings about (R117). -/
namespace Sys2Proof.Machine
open Sys2Proof

/-! ### Engagement completion (R117) -/

/-- R117. The mode is ENGAGING and the pass queue is empty. -/
def engagementDue (s : State) : Bool := s.ctl.mode = .engaging && s.store.pass.isEmpty

/-- R117. The engagement completes: REGULATE, nothing pending, the timer starts, ENGAGED is recorded. -/
def completeEngagement (s : State) : State :=
  let s1 := startTimer (s.withCtl { s.ctl with mode := .regulate, pendingOp := .none })
  recordControl .engaged s1.ctl.engaged s1

/-- R117. The completion, where its condition holds. -/
def engageIfDue (s : State) : State := if engagementDue s then completeEngagement s else s

/-- ENGAGEMENT_COMPLETION (R117, R73). No effect while its condition does not hold (log entries 1 and 6). -/
def execEngagementCompletion (s : State) : Result :=
  .next (if engagementDue s then reevaluate (completeEngagement s) else s)

/-! ### Eligibility (R81 to R83) -/

/-- R81. The head of a stream queue is order-waiting. -/
def orderWaiting (s : State) (d : Descriptor) : Bool :=
  d.group ≠ 0#2 && (allHeld s).any fun o => o.initiator = d.initiator && o.group = d.group && older s o d

/-- R82, R83. What both senses of eligibility ask of stream `k` and its head `d`. -/
def servable (s : State) (k : StreamId) (d : Descriptor) : Bool :=
  ((s.streams.get k).state = .active || (s.streams.get k).state = .draining)
    && !orderWaiting s d && inFlightCount s k < (s.streams.get k).maxInFlight.toNat

/-- The credit suffices for request `d` (R82, R90). -/
def affordable (s : State) (k : StreamId) (d : Descriptor) : Bool := d.length ≤ (s.streams.get k).credit

/-- R82. Stream `k`'s head is owner-eligible. -/
def ownerEligible (s : State) (k : StreamId) : Bool :=
  match queueOf s k with
  | [] => false
  | d :: _ => servable s k d && affordable s k d

/-- R83. Stream `k`'s head is open-eligible. -/
def openEligible (s : State) (k : StreamId) : Bool :=
  match queueOf s k with
  | [] => false
  | d :: _ =>
    servable s k d && (s.streams.get k).openShare && (affordable s k d || (s.streams.get k).overBudget = .lend)

/-! ### Selection (R79, R85 to R89) -/

/-- Which head is released. -/
inductive Winner | pass | owner (k : StreamId) | roundRobin (k : StreamId)
deriving DecidableEq, Repr

/-- R89. The search starts at P, goes upward and wraps from 23 to 0. -/
def searchOrder (p : StreamId) : List StreamId := (List.finRange numStreams).map fun j => p + j

/-- R89. The first stream from P whose head is open-eligible. -/
def roundRobin (s : State) : Option Winner :=
  ((searchOrder s.engine.pointer).find? (openEligible s)).map .roundRobin

/-- R86, R87. In an owned slot: the owner's head, else the round-robin when the slot lends. -/
def ownedSlot (s : State) (e : SlotEntry) : Option Winner :=
  match e.ownerStream with
  | some k => if ownerEligible s k then some (.owner k) else if e.lend then roundRobin s else none
  | none => if e.lend then roundRobin s else none

/-- R85. Selection by window. -/
def selectByWindow (s : State) : Option Winner :=
  match window s with
  | .none => none
  | .gap .openAll => roundRobin s
  | .gap .quiet => none
  | .slot _ e =>
    match e.owner with
    | .stream => ownedSlot s e
    | .openAll => roundRobin s
    | .quiet => none

/-- R80. The pass queue's head. -/
def selectPass (s : State) : Option Winner := if s.store.pass.isEmpty then none else some .pass

/-- R79. The mode names the queues that may release. -/
def selected (s : State) : Option Winner :=
  match s.ctl.mode with
  | .pass | .engaging => selectPass s
  | .regulate => selectByWindow s
  | .quiescing =>
    match s.ctl.returnMode with
    | .regulate => selectByWindow s
    | .pass => selectPass s
  | .quiesced => none

/-! ### Hand-off (R90 to R92) -/

/-- R91. The entry filled from a descriptor at the release tick. -/
def Descriptor.held (d : Descriptor) (a : Attribution) (now : Word) : Held :=
  { initiator := d.initiator, transaction := d.transaction, stream := a, kind := d.kind, length := d.length,
    admTick := d.admTick, relTick := now }

/-- R92, R157. The downstream request: the descriptor's unit address, kind, length and data, unchanged. -/
def Descriptor.request (d : Descriptor) (t : Tag) : DownRequest :=
  { tag := t, kind := d.kind, unitAddr := d.unitAddr, length := d.length, data := d.data }

/-- R91, R155. Entry `t` becomes IN_FLIGHT with the descriptor, the request is sent, the port becomes NOT_READY. -/
def handOff (d : Descriptor) (a : Attribution) (t : Tag) (s : State) : State :=
  (setEntry t (.inFlight (d.held a s.timer.tick)) s).withDp { ready := false, sent := s.dp.sent ++ [d.request t] }

/-- R90. Charged when the credit suffices. -/
def StreamEntry.charge (length : Nat) (e : StreamEntry) : StreamEntry :=
  if length ≤ e.credit then { e with credit := e.credit - length } else e

/-- R90, R142. Charged units or borrowed units rise by the length. -/
def StreamStats.release (charged : Bool) (length : Nat) (g : StreamStats) : StreamStats :=
  if charged then { g with chargedUnits := satAdd g.chargedUnits length }
  else { g with borrowedUnits := satAdd g.borrowedUnits length }

/-- R91, R94. A release from the owner's queue is noted in the running slot's record. -/
def Engine.note (k : StreamId) (e : Engine) : Engine :=
  { e with outcome := e.outcome.map fun o => if o.owner = some k then { o with released := true } else o }

/-- R89. The pointer moves past a round-robin winner. -/
def Engine.pass (k : StreamId) (e : Engine) : Engine := { e with pointer := k + 1 }

/-- R89 to R91, R94. Stream `k`'s head `d` leaves for entry `t`; `rest` is the queue behind it. -/
def sendHead (k : StreamId) (d : Descriptor) (rest : List Descriptor) (robin : Bool) (t : Tag) (s : State) : State :=
  let s1 := handOff d (.stream k) t (setQueue k rest s)
  let s2 := updStream k (StreamEntry.charge d.length) s1
  let s3 := updStats k (StreamStats.release (affordable s k d) d.length) s2
  s3.withEngine (let e := s3.engine.note k; if robin then e.pass k else e)

/-- R12, R73, R91, R122. The release of stream `k`'s head with what follows from it. -/
def releaseStream (k : StreamId) (robin : Bool) (t : Tag) (s : State) : State :=
  match queueOf s k with
  | [] => s
  | d :: rest => reevaluate (quiesceIfDue (closeIfDrained k (sendHead k d rest robin t s)))

/-- R117. The ENGAGING mode counts the pass-queue releases. -/
def Control.countPass (c : Control) : Control :=
  if c.mode = .engaging then { c with engaged := c.engaged + 1 } else c

/-- R80, R91. The pass queue's head `d` leaves for entry `t`. -/
def sendPass (d : Descriptor) (rest : List Descriptor) (t : Tag) (s : State) : State :=
  let s1 := handOff d .pass t (setPass rest s)
  let s2 := updGlobals (fun g => { g with passReleases := satAdd g.passReleases 1 }) s1
  s2.withCtl s2.ctl.countPass

/-- R73, R80, R117, R122. The release of the pass queue's head with what follows from it; the stalled request is
evaluated again once, after a completion. -/
def releasePass (t : Tag) (s : State) : State :=
  match s.store.pass with
  | [] => s
  | d :: rest => reevaluate (quiesceIfDue (engageIfDue (sendPass d rest t s)))

/-- R78. The winner of the selection and the entry it takes, when all three conditions of a release hold. -/
def releaseDue (s : State) : Option (Winner × Tag) :=
  if s.dp.ready then
    match selected s, freeTag s with
    | some w, some t => some (w, t)
    | _, _ => none
  else none

/-- R78, R91. One release, where its conditions hold. -/
def releaseIfDue (s : State) : State :=
  match releaseDue s with
  | some (.pass, t) => releasePass t s
  | some (.owner k, t) => releaseStream k false t s
  | some (.roundRobin k, t) => releaseStream k true t s
  | none => s

/-- RELEASE (R78 to R92). No effect while its conditions do not hold (log entry 1). -/
def execRelease (s : State) : Result := .next (releaseIfDue s)

/-- DP_READY (R155). A signal while the condition is already READY changes nothing. The release that may follow is an
event of its own (R78). -/
def execDpReady (s : State) : Result := .next (s.withDp { s.dp with ready := true })

end Sys2Proof.Machine
end

