-- ==== Sys2Proof/Machine/Clock.lean ====
section
/-! DEFINITION. The tick (R36, R37): what the passing of one tick does at every block that counts ticks. -/
namespace Sys2Proof.Machine
open Sys2Proof

/-- R75. Every request that is due crosses its deadline, oldest first. -/
def crossAll (s : State) : State := crossOldest^[(streamHeld s).length] s

/-- The events that are due at the present instant and have not been commanded, in a fixed order; none of them can be
left until a later tick (R41, R46, R50, R75, R78, R105; log entry 2). -/
def settle (s : State) : State :=
  releaseIfDue (expireAll (crossAll (expireSyncIfDue (slotEndIfDue (qualifyIfDue (judgeSample s))))))

/-- R46. The qualifier at a tick whose sample shows `level`: a held new level raises the count. -/
def Qualifier.hold (runs : Bool) (reference level : Level) : Qualifier → Qualifier
  | .idle => .idle
  | .qualifying c => if runs ∧ level ≠ reference then .qualifying (c + 1) else .qualifying c

/-- R36, R37, R41, R45, R46, R50. What a tick does to the Frame Timer. -/
def Timer.advance (runs : Bool) (periods : Nat) (fsync : Level) (t : Timer) : Timer :=
  { t with
    tick := t.tick + 1
    divider := periods
    down := if t.slot.isSome then t.down - 1 else t.down
    waitCount := if t.state = .waitSync then satSucc16 t.waitCount else t.waitCount
    pulse := false
    line := fsync
    sample := fsync
    qualifier := t.qualifier.hold runs t.reference fsync }

/-- R36. One tick, with nothing left over from the instant before it. -/
def advance (fsync : Level) (s : State) : State :=
  s.withTimer (s.timer.advance (qualifierRuns s) s.settings.prescaler.periods fsync)

/-- TICK (R36, R37). The events still due are taken first (log entry 2). The events that the tick makes due (a slot end,
a qualification, an expiry, a crossing) are commands of their own. -/
def execTick (fsync : Level) (s : State) : Result := .next (advance fsync (settle s))

end Sys2Proof.Machine
end

