-- ==== Sys2Proof/Machine/Link.lean ====
section
/-! DEFINITION. How a command of the Management Link is answered (R159, R162 to R165): every command's own rule is a
function from the argument bytes and the state to the state and the answer; this file turns the answer into the
response of the transaction. -/
namespace Sys2Proof.Machine
open Sys2Proof

/-- R162. The status and payload that a command's rule decides. -/
structure Answer where
  status : Status
  payload : List Byte
deriving DecidableEq, Repr

/-- A command that is refused, or has nothing to return: the state as it was and no payload (R162). -/
def refusal (st : Status) (s : State) : State × Answer := (s, { status := st, payload := [] })

/-- A command taken with status OK. -/
def accepted (payload : List Byte) (s : State) : State × Answer := (s, { status := .ok, payload := payload })

/-- R159, R164. The decided response, if there is one, is placed in the response buffer; one that is retained becomes
the retained last response. -/
def Link.place (l : Link) : Link :=
  match l.response with
  | none => l
  | some r =>
    { l with response := none, buffer := some r.frame, retained := if r.retain then some r.frame else l.retained }

/-- R159. The receiver is WORKING with a decided response; MRDY is LOW. -/
def Link.decide (r : Reply) (l : Link) : Link := { l with receiver := .working, response := some r, mrdy := false }

/-- R163, R164. An earlier response that was never placed is completed before the next command is taken. -/
def placeResponse (s : State) : State := s.withLink s.link.place

/-- R159, R162, R164. The command of a received frame with sequence byte `seq` is decided by `run`, its effects are
made, and its response waits to be placed. -/
def respond (seq : Byte) (retain : Bool) (run : State → State × Answer) (s : State) : State :=
  let (s1, a) := run (placeResponse s)
  s1.withLink (s1.link.decide { frame := responseFrame a.status seq a.payload, retain := retain })

end Sys2Proof.Machine
end

