-- ==== Sys2Proof/Machine/Modes.lean ====
section
/-! DEFINITION. The mode commands (chapter 7): ENGAGE, DISENGAGE, QUIESCE, RESUME, decided by R115. -/
namespace Sys2Proof.Machine
open Sys2Proof

/-- R116. An ENGAGE taken in PASS: ENGAGING, then the completion at once or the pending operation. -/
def engage (s : State) : State × Answer :=
  let s1 := s.withCtl { s.ctl with mode := .engaging, engaged := 0 }
  if engagementDue s1 then accepted [] (reevaluate (completeEngagement s1))
  else (reevaluate (s1.withCtl { s1.ctl with pendingOp := .engage }), { status := .started, payload := [] })

/-- R115, R116. ENGAGE. -/
def cmdEngage (args : List Byte) (s : State) : State × Answer :=
  match args with
  | [] =>
    if s.ctl.pendingOp ≠ .none then refusal .busy s
    else if s.ctl.mode = .pass then engage s
    else refusal .badState s
  | _ => refusal .badArgument s

/-- R119, R120. The merge: every stream-queued request moves behind the pass queue in admission order. -/
def mergeQueues (s : State) : State :=
  s.withStore
    { s.store with
      queues := Table.replicate numStreams []
      pass := s.store.pass ++ admissionOrder s (streamHeld s) }

/-- R120. Each DRAINING stream that holds nothing closes, from the lowest stream number (R132). -/
def closeDrained (s : State) : State := (List.finRange numStreams).foldl (fun s k => closeIfDrained k s) s

/-- R118, R132. What a DISENGAGE records and stops before the merge: in ENGAGING the cancellation; in REGULATE the
stop, a pending COMMIT's completion, and DISENGAGED with the number merged. -/
def leaveRegulation (s : State) : State :=
  if s.ctl.mode = .engaging then recordControl .operationCancelled PendingOp.engage.code.toNat s
  else recordControl .disengaged (streamHeld s).length (commitAtFrame (stopTimer s))

/-- R118. A DISENGAGE taken in ENGAGING or REGULATE. -/
def disengage (s : State) : State :=
  let s1 := mergeQueues (leaveRegulation s)
  reevaluate (closeDrained (s1.withCtl { s1.ctl with mode := .pass, pendingOp := .none }))

/-- R115, R118. DISENGAGE, answered with the number of requests merged. -/
def cmdDisengage (args : List Byte) (s : State) : State × Answer :=
  match args with
  | [] =>
    match s.ctl.mode with
    | .pass => accepted [natByte 0] s
    | .engaging | .regulate => accepted [natByte (streamHeld s).length] (disengage s)
    | .quiescing | .quiesced => refusal .badState s
  | _ => refusal .badArgument s

/-- R121. A QUIESCE taken in PASS or REGULATE, with that return mode. -/
def quiesce (back : ReturnMode) (s : State) : State × Answer :=
  let s1 := s.withCtl { s.ctl with mode := .quiescing, returnMode := back }
  if quiesceDue s1 then accepted [] (reevaluate (completeQuiesce s1))
  else (reevaluate (s1.withCtl { s1.ctl with pendingOp := .quiesce }), { status := .started, payload := [] })

/-- R115, R121. QUIESCE: BAD_STATE in ENGAGING whatever is pending. -/
def cmdQuiesce (args : List Byte) (s : State) : State × Answer :=
  match args with
  | [] =>
    if s.ctl.mode = .engaging then refusal .badState s
    else if s.ctl.pendingOp ≠ .none then refusal .busy s
    else
      match s.ctl.mode with
      | .pass => quiesce .pass s
      | .regulate => quiesce .regulate s
      | .engaging | .quiescing | .quiesced => refusal .badState s
  | _ => refusal .badArgument s

/-- R124. A RESUME taken in QUIESCING cancels the quiesce. -/
def cancelQuiesce (s : State) : State :=
  recordControl .operationCancelled PendingOp.quiesce.code.toNat
    (s.withCtl { s.ctl with mode := s.ctl.returnMode.mode, pendingOp := .none })

/-- R115, R124. RESUME, answered with the mode now in force. -/
def cmdResume (args : List Byte) (s : State) : State × Answer :=
  match args with
  | [] =>
    match s.ctl.mode with
    | .quiescing => accepted [s.ctl.returnMode.mode.code] (reevaluate (cancelQuiesce s))
    | .quiesced =>
      accepted [s.ctl.returnMode.mode.code] (reevaluate (s.withCtl { s.ctl with mode := s.ctl.returnMode.mode }))
    | .pass | .engaging | .regulate => refusal .badState s
  | _ => refusal .badArgument s

/-- ENGAGE (R115 to R117). -/
def execEngage (seq : Byte) (args : List Byte) (s : State) : Result :=
  .next (respond seq true (cmdEngage args) s)

/-- DISENGAGE (R115, R118 to R120). -/
def execDisengage (seq : Byte) (args : List Byte) (s : State) : Result :=
  .next (respond seq true (cmdDisengage args) s)

/-- QUIESCE (R115, R121, R122). -/
def execQuiesce (seq : Byte) (args : List Byte) (s : State) : Result :=
  .next (respond seq true (cmdQuiesce args) s)

/-- RESUME (R115, R124). -/
def execResume (seq : Byte) (args : List Byte) (s : State) : Result :=
  .next (respond seq true (cmdResume args) s)

end Sys2Proof.Machine
end

