-- ==== Sys2Proof/Machine/Streams.lean ====
section
/-! DEFINITION. The Stream Table's commands (chapter 1): READ_STREAM, WRITE_STREAM, SET_STREAM_STATE, FLUSH_STREAM. -/
namespace Sys2Proof.Machine
open Sys2Proof

/-- Table 12-5. The 35 bytes of a stream entry, all taken at one instant (R2). -/
def streamPayload (s : State) (k : StreamId) : List Byte :=
  let e := s.streams.get k
  [natByte k.val, e.state.code] ++ e.configBytes ++ bytes24 (BitVec.ofNat 24 e.credit)
    ++ bytes24 (BitVec.ofNat 24 e.cap) ++ [natByte (queuedCount s k)] ++ bytes16 (BitVec.ofNat 16 (queuedUnits s k))
    ++ [natByte (inFlightCount s k), 0#5 ++ BitVec.ofBool e.heldSeen ++ BitVec.ofBool e.lateSeen
          ++ BitVec.ofBool e.refusedSeen]

/-- R2. READ_STREAM. -/
def cmdReadStream (args : List Byte) (s : State) : State × Answer :=
  match args with
  | [n] =>
    match parseStream n with
    | some k => accepted (streamPayload s k) s
    | none => refusal .badArgument s
  | _ => refusal .badArgument s

/-! ### WRITE_STREAM (R3 to R6, R16) -/

/-- R4. The write selects a matching field of a stream that is not DISABLED. -/
def writesMatching (e : StreamEntry) (w : StreamWrite) : Bool :=
  e.state ≠ .disabled && (w.sel.getLsbD 0 || w.sel.getLsbD 1 || w.sel.getLsbD 2 || w.sel.getLsbD 3)

/-- R5. The reserves of all streams, with the entry after the write in place. -/
def reserveSum (t : Table numStreams StreamEntry) : Nat :=
  ((List.finRange numStreams).map fun k => (t.get k).reserve.toNat).sum

/-- R3 second stage: R4 and R5, against the values in force. -/
def streamWriteRefused (s : State) (w : StreamWrite) : Bool :=
  let after := s.withStreams (s.streams.set w.stream w.entry)
  writesMatching (s.streams.get w.stream) w
    || (w.sel.getLsbD 9 && w.entry.queueLimit.toNat < queuedCount s w.stream)
    || (w.sel.getLsbD 10
        && (numDescriptors < reserveSum after.streams
            || freeDescriptors s + passCount s < reserveShortfall after))

/-- R16. A write of reload or carry lowers a credit above the new cap to it. -/
def StreamWrite.clamped (w : StreamWrite) : StreamEntry :=
  if w.sel.getLsbD 4 || w.sel.getLsbD 5 then { w.entry with credit := min w.entry.credit w.entry.cap } else w.entry

/-- R6. A write of the deadline makes the queued requests already past it cross, in admission order. -/
def crossWritten (w : StreamWrite) (s : State) : State :=
  if w.sel.getLsbD 11 then (crossIn w.stream)^[queuedCount s w.stream] s else s

/-- R3, R6, R16. The write of a taken WRITE_STREAM. -/
def writeFields (w : StreamWrite) (s : State) : State :=
  crossWritten w (s.withStreams (s.streams.set w.stream w.clamped))

/-- R3, R73. WRITE_STREAM: the argument stage, the state stage, the write; answered with the entry after the write. -/
def cmdWriteStream (args : List Byte) (s : State) : State × Answer :=
  match parseStreamWrite s.streams args with
  | none => refusal .badArgument s
  | some w =>
    if streamWriteRefused s w then refusal .badState s
    else accepted (streamPayload (writeFields w s) w.stream) (reevaluate (writeFields w s))

/-! ### SET_STREAM_STATE (R8 to R13) -/

/-- R8. What a target state does to a stream. -/
inductive Transition | keep | enable | move | close | refused (st : Status)
deriving DecidableEq, Repr

/-- R9. The stream can be enabled. -/
def StreamEntry.enablable (e : StreamEntry) : Bool := e.initiatorSet ≠ 0#32 && e.pageBase.toNat ≤ e.pageLimit.toNat

/-- R8. The transition table, with R9's refusal of an enable. -/
def transition (e : StreamEntry) (target : StreamState) : Transition :=
  match e.state, target with
  | .disabled, .active | .disabled, .paused => if e.enablable then .enable else .refused .badArgument
  | .disabled, .draining => .refused .badState
  | .disabled, .disabled => .keep
  | .active, .active => .keep
  | .active, .paused => .move
  | .active, .draining | .active, .disabled => .close
  | .paused, .active => .move
  | .paused, .paused => .keep
  | .paused, .draining | .paused, .disabled => .close
  | .draining, .active => .move
  | .draining, .paused => .refused .badState
  | .draining, .draining | .draining, .disabled => .keep

/-- R11. A close: DISABLED at once when the stream holds nothing, DRAINING otherwise. -/
def closeRequest (k : StreamId) (s : State) : State :=
  if queuedCount s k = 0 ∧ inFlightCount s k = 0 then closeStream k 0 s
  else updStream k (fun e => { e with state := .draining }) s

/-- R9 to R11, R13. The change of state alone. -/
def changeStream (k : StreamId) (target : StreamState) (t : Transition) (s : State) : State :=
  match t with
  | .keep | .refused _ => s
  | .enable => updStream k (fun e => { e with state := target, credit := e.reload.toNat }) s
  | .move => updStream k (fun e => { e with state := target }) s
  | .close => closeRequest k s

/-- R8, R73, R122, R132. SET_STREAM_STATE, answered with the state after the command. -/
def cmdSetStreamState (args : List Byte) (s : State) : State × Answer :=
  match args with
  | [n, b] =>
    match parseStream n, parseStreamState b with
    | some k, some target =>
      match transition (s.streams.get k) target with
      | .refused st => refusal st s
      | t =>
        let s1 := changeStream k target t s
        (reevaluate (quiesceIfDue s1), { status := .ok, payload := [(s1.streams.get k).state.code] })
    | _, _ => refusal .badArgument s
  | _ => refusal .badArgument s

/-! ### FLUSH_STREAM (R18, R19) -/

/-- R18. Answer a list of queued requests REFUSED with `reason`, in order. -/
def refuseAll (reason : Reason) (stream : Option StreamId) (ds : List Descriptor) (s : State) : State :=
  ds.foldl (fun s d => refuseRequest d.initiator d.transaction reason stream s) s

/-- R18, R19. A flush of stream `k`: the answers, the empty queue, the close and the quiesce completion it may bring,
and the re-evaluation of the stalled request. -/
def flush (k : StreamId) (s : State) : State :=
  reevaluate (quiesceIfDue (closeIfDrained k (refuseAll .flushed (some k) (queueOf s k) (setQueue k [] s))))

/-- R18. FLUSH_STREAM, answered with the number of requests flushed. -/
def cmdFlushStream (args : List Byte) (s : State) : State × Answer :=
  match args with
  | [n] =>
    match parseStream n with
    | some k => accepted [natByte (queuedCount s k)] (flush k s)
    | none => refusal .badArgument s
  | _ => refusal .badArgument s

/-- READ_STREAM (R2). -/
def execReadStream (seq : Byte) (args : List Byte) (s : State) : Result :=
  .next (respond seq true (cmdReadStream args) s)

/-- WRITE_STREAM (R3). -/
def execWriteStream (seq : Byte) (args : List Byte) (s : State) : Result :=
  .next (respond seq true (cmdWriteStream args) s)

/-- SET_STREAM_STATE (R8). -/
def execSetStreamState (seq : Byte) (args : List Byte) (s : State) : Result :=
  .next (respond seq true (cmdSetStreamState args) s)

/-- FLUSH_STREAM (R18). -/
def execFlushStream (seq : Byte) (args : List Byte) (s : State) : Result :=
  .next (respond seq true (cmdFlushStream args) s)

end Sys2Proof.Machine
end

