-- ==== Sys2Proof/Machine/Reset.lean ====
section
/-! DEFINITION. The two resets: power-on reset and the RESET command (R125). -/
namespace Sys2Proof.Machine
open Sys2Proof

/-- POWER_ON_RESET (R1, R20, R38, R57, R77, R99, R113, R138, R140, R158). Every block takes its power-on values; the
level on the FSYNC input is not the block's. The spec gives no level for the last sample: that it becomes the present
level of the line is the model's choice (DESIGN CHOICE, log entry 14). -/
def execPowerOnReset (s : State) : Result :=
  .next
    ((State.reset.withPending s.pending).withTimer { Timer.reset with line := s.timer.line, sample := s.timer.line })

/-- R125. Every queued request with its stream, or none for the pass queue. -/
def queuedRequests (s : State) : List (Option StreamId × Descriptor) :=
  ((List.finRange numStreams).flatMap fun k => (queueOf s k).map fun d => (some k, d))
    ++ s.store.pass.map fun d => (none, d)

/-- R125. The queued requests in admission order across all queues, oldest first. -/
def resetOrder (s : State) : List (Option StreamId × Descriptor) :=
  (queuedRequests s).insertionSort fun a b => seqAge s b.2 ≤ seqAge s a.2

/-- R125. The queued requests are refused with reason RESET. -/
def refuseQueued (s : State) : State :=
  (resetOrder s).foldl (fun t q => refuseRequest q.2.initiator q.2.transaction .reset q.1 t) s

/-- R38, R40. The Frame Timer at the RESET command: stopped, then at its reset values; the tick counter runs on. The
divider restarts when the prescaler was not 1 (R36). The spec says nothing of the last sample, which stays with the line
(log entry 15). -/
def Timer.resetCommand (old : Prescaler) (t : Timer) : Timer :=
  { t.stop with
    frame := 0#32, reference := .low, frameTick := 0#32
    divider := if old = .by1 then t.divider else Prescaler.by1.periods }

/-- R1, R20, R33, R38, R57, R58, R77, R111, R113, R138, R140, R167. Every block's part of the RESET command but the
refusals before it and the events after it. -/
def resetBlocks (s : State) : State :=
  { s with
    streams := Table.replicate numStreams StreamEntry.reset
    store := Store.reset
    active := Bank.reset
    staged := Bank.reset
    settings := Settings.reset
    timer := s.timer.resetCommand s.settings.prescaler
    engine := Engine.reset
    table := s.table.map Entry.forget
    events := Events.reset
    stats := Stats.reset
    ctl := Control.reset }

/-- R74, R125, R138. The RESET command: the refusals, the blocks, RESET_DONE, the stalled request under PASS. -/
def resetCommand (s : State) : State :=
  reevaluate (recordControl .resetDone (allHeld s).length (resetBlocks (refuseQueued s)))

/-- R125. RESET, answered with the number of requests refused. -/
def cmdReset (args : List Byte) (s : State) : State × Answer :=
  match args with
  | [] => accepted [natByte (allHeld s).length] (resetCommand s)
  | _ => refusal .badArgument s

/-- RESET (R125). -/
def execReset (seq : Byte) (args : List Byte) (s : State) : Result :=
  .next (respond seq true (cmdReset args) s)

end Sys2Proof.Machine
end

