-- ==== Sys2Proof/Machine/Schedule.lean ====
section
/-! DEFINITION. The Schedule Store's commands (chapter 2): READ_SLOTS, WRITE_SLOTS, SET_SLOT_COUNT, REVERT_STAGED,
COMMIT. -/
namespace Sys2Proof.Machine
open Sys2Proof

/-- R23. The pending-commit condition: the staged bank is locked. -/
def stagedLocked (s : State) : Bool := s.ctl.pendingOp = .commit

/-- R23. An editing command whose arguments pass: BUSY while the staged bank is locked, else the new staged bank, with
the staged summary. -/
def editStaged (b : Bank) (s : State) : State × Answer :=
  if stagedLocked s then refusal .busy s else accepted b.summary (s.withStaged b)

/-- R24, R27. A first index and a count of 1 to 16 within the 48 entries. -/
def slotRange (first count : Byte) : Bool :=
  first.toNat ≤ 47 && 1 ≤ count.toNat && count.toNat ≤ 16 && first.toNat + count.toNat ≤ numSlots

/-- R27. READ_SLOTS: the selected bank's summary, then the entries. -/
def cmdReadSlots (args : List Byte) (s : State) : State × Answer :=
  match args with
  | [bank, first, count] =>
    match parseFlag bank with
    | some staged =>
      if slotRange first count then
        let b := if staged then s.staged else s.active
        accepted (b.summary ++ ((b.entries.cells.drop first.toNat).take count.toNat).flatMap SlotEntry.bytes) s
      else refusal .badArgument s
    | none => refusal .badArgument s
  | _ => refusal .badArgument s

/-- R24. The entries from index `k` replaced by `es`, one after another. -/
def writeEntries (t : Table numSlots SlotEntry) (k : Nat) : List SlotEntry → Table numSlots SlotEntry
  | [] => t
  | e :: es => writeEntries (if h : k < numSlots then t.set ⟨k, h⟩ e else t) (k + 1) es

/-- R24. WRITE_SLOTS: the argument checks, then the lock, then the write. -/
def cmdWriteSlots (args : List Byte) (s : State) : State × Answer :=
  match args with
  | first :: count :: rest =>
    match parseSlotEntries rest with
    | some es =>
      if slotRange first count ∧ es.length = count.toNat then
        editStaged { s.staged with entries := writeEntries s.staged.entries first.toNat es } s
      else refusal .badArgument s
    | none => refusal .badArgument s
  | _ => refusal .badArgument s

/-- R25. SET_SLOT_COUNT. -/
def cmdSetSlotCount (args : List Byte) (s : State) : State × Answer :=
  match args with
  | [n] => if n.toNat ≤ numSlots then editStaged { s.staged with count := n.toNat } s else refusal .badArgument s
  | _ => refusal .badArgument s

/-- R26. REVERT_STAGED. -/
def cmdRevertStaged (args : List Byte) (s : State) : State × Answer :=
  match args with
  | [] => editStaged s.active s
  | _ => refusal .badArgument s

/-- R29. COMMIT: BUSY, then validation, then completion at once or the pending operation. -/
def cmdCommit (args : List Byte) (s : State) : State × Answer :=
  match args with
  | [] =>
    if s.ctl.pendingOp ≠ .none then refusal .busy s
    else
      match s.staged.fault with
      | some (c, k) => (s, { status := .badArgument, payload := [c.code, k] })
      | none =>
        if s.timer.state = .stopped then accepted s.staged.summary (completeCommit s)
        else (s.withCtl { s.ctl with pendingOp := .commit }, { status := .started, payload := s.staged.summary })
  | _ => refusal .badArgument s

/-- READ_SLOTS (R27). -/
def execReadSlots (seq : Byte) (args : List Byte) (s : State) : Result :=
  .next (respond seq true (cmdReadSlots args) s)

/-- WRITE_SLOTS (R24). -/
def execWriteSlots (seq : Byte) (args : List Byte) (s : State) : Result :=
  .next (respond seq true (cmdWriteSlots args) s)

/-- SET_SLOT_COUNT (R25). -/
def execSetSlotCount (seq : Byte) (args : List Byte) (s : State) : Result :=
  .next (respond seq true (cmdSetSlotCount args) s)

/-- REVERT_STAGED (R26). -/
def execRevertStaged (seq : Byte) (args : List Byte) (s : State) : Result :=
  .next (respond seq true (cmdRevertStaged args) s)

/-- COMMIT (R28, R29). -/
def execCommit (seq : Byte) (args : List Byte) (s : State) : Result :=
  .next (respond seq true (cmdCommit args) s)

end Sys2Proof.Machine
end

