-- ==== Sys2Proof/Machine/Settings.lean ====
section
/-! DEFINITION. The link's own commands (chapter 11): STATUS, READ_SETTINGS, WRITE_SETTINGS, REPEAT_LAST. -/
namespace Sys2Proof.Machine
open Sys2Proof

/-- Table 12-3. The 21 bytes of STATUS, all taken at one instant (R166). -/
def statusPayload (s : State) : List Byte :=
  [s.ctl.mode.code, s.timer.state.code, s.ctl.pendingOp.code] ++ bytes32 s.timer.frame
    ++ [match s.timer.slot with | some k => natByte k.val | none => 0xFF#8] ++ bytes32 s.timer.tick
    ++ [natByte (freeDescriptors s)] ++ bytes16 (BitVec.ofNat 16 (freeUnits s))
    ++ [natByte (passCount s), natByte (inFlightTotal s), natByte (orphanedTotal s),
        natByte s.events.records.length, flagByte (attn s), natByte revision]

/-- R166. STATUS. -/
def cmdStatus (args : List Byte) (s : State) : State × Answer :=
  match args with
  | [] => accepted (statusPayload s) s
  | _ => refusal .badArgument s

/-- Table 12-4. The settings block and the latch byte. -/
def settingsPayload (s : State) : List Byte :=
  s.settings.bytes ++ [0#6 ++ BitVec.ofBool s.events.earlySeen ++ BitVec.ofBool s.events.portRefuseSeen]

/-- R167. READ_SETTINGS. -/
def cmdReadSettings (args : List Byte) (s : State) : State × Answer :=
  match args with
  | [] => accepted (settingsPayload s) s
  | _ => refusal .badArgument s

/-- R54. The write selects a setting that needs a STOPPED timer. -/
def SettingsWrite.needsStopped (w : SettingsWrite) : Bool :=
  w.sel.getLsbD 0 || w.sel.getLsbD 1 || w.sel.getLsbD 3 || w.sel.getLsbD 4

/-- R36, R45. What a write of the settings does to the Frame Timer at once: a new prescaler restarts the tick divider,
and turning the FSYNC output off ends a pulse. -/
def Timer.onSettings (old new : Settings) (t : Timer) : Timer :=
  { t with
    divider := if new.prescaler = old.prescaler then t.divider else new.prescaler.periods
    pulse := t.pulse && new.fsyncOut }

/-- R167. The settings are written, at one instant. -/
def writeSettings (w : SettingsWrite) (s : State) : State :=
  (s.withSettings w.apply).withTimer (s.timer.onSettings s.settings w.apply)

/-- R50, R73, R105, R167. The events that a taken write brings, in order: the expiry of the sync timeout, the expiries of
the response timeout, the evaluation of a stalled request under a new default stream. The spec does not order these
against each other: the order, and that a frame start or a close among them has a stalled request evaluated at once, so
that its response can stand before or between the TIMEOUTs, is the model's choice (DESIGN CHOICE, log entry 25). -/
def settingsEvents (w : SettingsWrite) (s : State) : State :=
  let s1 := if w.sel.getLsbD 5 then expireSyncIfDue s else s
  let s2 := if w.sel.getLsbD 8 then expireAll s1 else s1
  if w.sel.getLsbD 7 then reevaluate s2 else s2

/-- R54, R167. WRITE_SETTINGS: the arguments, the timer state, the write, its events. -/
def cmdWriteSettings (args : List Byte) (s : State) : State × Answer :=
  match parseSettingsWrite s.settings args with
  | none => refusal .badArgument s
  | some w =>
    if w.needsStopped && !(s.timer.state = .stopped) then refusal .badState s
    else accepted (settingsPayload (writeSettings w s)) (settingsEvents w (writeSettings w s))

/-- R165. The frame REPEAT_LAST answers with. -/
def repeatFrame (seq : Byte) (args : List Byte) (l : Link) : List Byte :=
  match args, l.retained with
  | [], some f => f
  | [], none => responseFrame .noData seq []
  | _, _ => responseFrame .badArgument seq []

/-- R165. REPEAT_LAST: its response is never retained. -/
def repeatLast (seq : Byte) (args : List Byte) (s : State) : State :=
  let s1 := placeResponse s
  s1.withLink (s1.link.decide { frame := repeatFrame seq args s1.link, retain := false })

/-- STATUS (R166). -/
def execStatus (seq : Byte) (args : List Byte) (s : State) : Result :=
  .next (respond seq true (cmdStatus args) s)

/-- READ_SETTINGS (R167). -/
def execReadSettings (seq : Byte) (args : List Byte) (s : State) : Result :=
  .next (respond seq true (cmdReadSettings args) s)

/-- WRITE_SETTINGS (R167). -/
def execWriteSettings (seq : Byte) (args : List Byte) (s : State) : Result :=
  .next (respond seq true (cmdWriteSettings args) s)

/-- REPEAT_LAST (R165). -/
def execRepeatLast (seq : Byte) (args : List Byte) (s : State) : Result := .next (repeatLast seq args s)

end Sys2Proof.Machine
end

