-- ==== Sys2Proof/Machine/Statistics.lean ====
section
/-! DEFINITION. The commands of the Event Queue and the Statistics Unit (chapters 8 and 9): READ_EVENTS, CLEAR_FLAGS,
SNAPSHOT, READ_SNAPSHOT. -/
namespace Sys2Proof.Machine
open Sys2Proof

/-- R133. READ_EVENTS: the j oldest records leave the queue; answered with j, the number still held, and the records. -/
def cmdReadEvents (args : List Byte) (s : State) : State × Answer :=
  match args with
  | [k] =>
    if 1 ≤ k.toNat ∧ k.toNat ≤ 8 then
      let rs := s.events.records
      if rs.isEmpty then refusal .noData s
      else
        accepted
          ([natByte (rs.take k.toNat).length, natByte (rs.drop k.toNat).length]
            ++ (rs.take k.toNat).flatMap EventRecord.bytes)
          (s.withEvents { s.events with records := rs.drop k.toNat })
    else refusal .badArgument s
  | _ => refusal .badArgument s

/-! ### CLEAR_FLAGS (R136) -/

/-- How many of the flags are selected and set. -/
def countSet (flags : List (Bool × Bool)) : Nat := flags.countP fun f => f.1 && f.2

/-- R136. The selected latches of a stream, cleared. -/
def StreamEntry.clear (sel : Byte) (e : StreamEntry) : StreamEntry :=
  { e with
    refusedSeen := e.refusedSeen && !sel.getLsbD 0
    lateSeen := e.lateSeen && !sel.getLsbD 1
    heldSeen := e.heldSeen && !sel.getLsbD 2 }

/-- R136. How many selected latches of a stream are set. -/
def StreamEntry.selectedSet (sel : Byte) (e : StreamEntry) : Nat :=
  countSet [(sel.getLsbD 0, e.refusedSeen), (sel.getLsbD 1, e.lateSeen), (sel.getLsbD 2, e.heldSeen)]

/-- R136. The selected global latches, cleared. -/
def Events.clear (sel : Byte) (e : Events) : Events :=
  { e with
    portRefuseSeen := e.portRefuseSeen && !sel.getLsbD 3
    earlySeen := e.earlySeen && !sel.getLsbD 4 }

/-- R136. How many selected global latches are set. -/
def Events.selectedSet (sel : Byte) (e : Events) : Nat :=
  countSet [(sel.getLsbD 3, e.portRefuseSeen), (sel.getLsbD 4, e.earlySeen)]

/-- R136. The five latches a selection byte can name: bits 0 to 4; bits 5 to 7 are Reserved. -/
def cmdClearFlags (args : List Byte) (s : State) : State × Answer :=
  match args with
  | [target, sel] =>
    if 32 ≤ sel.toNat then refusal .badArgument s
    else if target = 0x40#8 then
      if sel.getLsbD 0 || sel.getLsbD 1 || sel.getLsbD 2 then refusal .badArgument s
      else accepted [natByte (s.events.selectedSet sel)] (s.withEvents (s.events.clear sel))
    else if target = 0x41#8 then
      accepted [natByte ((s.streams.cells.map (StreamEntry.selectedSet sel)).sum + s.events.selectedSet sel)]
        ((s.withStreams (s.streams.map (StreamEntry.clear sel))).withEvents (s.events.clear sel))
    else
      match parseStream target with
      | some k =>
        if sel.getLsbD 3 || sel.getLsbD 4 then refusal .badArgument s
        else accepted [natByte ((s.streams.get k).selectedSet sel)] (updStream k (StreamEntry.clear sel) s)
      | none => refusal .badArgument s
  | _ => refusal .badArgument s

/-! ### Snapshots (R148, R150) -/

/-- R148. A copy of a group with the frame number and tick counter of this instant. -/
def capture (c : GroupCopy) (s : State) : Snapshot := { copy := c, frame := s.timer.frame, tick := s.timer.tick }

/-- R148. The capture into the buffer, and the clear of the captured group when asked. -/
def takeSnapshot (c : GroupCopy) (clear : Bool) (s : State) : State :=
  let s1 := s.withStats { s.stats with snapshot := some (capture c s) }
  if clear then
    match c with
    | .stream k _ => updStats k (fun _ => StreamStats.reset) s1
    | .global _ => updGlobals (fun _ => GlobalStats.reset) s1
  else s1

/-- R148. The group a target byte names: 00h to 17h, or 40h for GLOBAL. -/
def snapshotTarget (s : State) (b : Byte) : Option GroupCopy :=
  if b = 0x40#8 then some (.global s.stats.globals)
  else (parseStream b).map fun k => .stream k (s.stats.streams.get k)

/-- R148. SNAPSHOT. -/
def cmdSnapshot (args : List Byte) (s : State) : State × Answer :=
  match args with
  | [target, clear] =>
    match snapshotTarget s target, parseFlag clear with
    | some c, some cl => accepted (capture c s).header (takeSnapshot c cl s)
    | _, _ => refusal .badArgument s
  | _ => refusal .badArgument s

/-- R150. READ_SNAPSHOT. -/
def cmdReadSnapshot (args : List Byte) (s : State) : State × Answer :=
  match args with
  | [] =>
    match s.stats.snapshot with
    | some b => accepted b.bytes s
    | none => refusal .noData s
  | _ => refusal .badArgument s

/-- READ_EVENTS (R133). -/
def execReadEvents (seq : Byte) (args : List Byte) (s : State) : Result :=
  .next (respond seq true (cmdReadEvents args) s)

/-- CLEAR_FLAGS (R136). -/
def execClearFlags (seq : Byte) (args : List Byte) (s : State) : Result :=
  .next (respond seq true (cmdClearFlags args) s)

/-- SNAPSHOT (R148). -/
def execSnapshot (seq : Byte) (args : List Byte) (s : State) : Result :=
  .next (respond seq true (cmdSnapshot args) s)

/-- READ_SNAPSHOT (R150). -/
def execReadSnapshot (seq : Byte) (args : List Byte) (s : State) : Result :=
  .next (respond seq true (cmdReadSnapshot args) s)

end Sys2Proof.Machine
end

