-- ==== Sys2Proof/Machine/Receiver.lean ====
section
/-! DEFINITION. The receiver of the Management Link (R158 to R164): selection, bytes, faulty frames, the response. -/
namespace Sys2Proof.Machine
open Sys2Proof

/-- MSEL_N_ASSERTION (R159). The receiver becomes RECEIVING with no bytes. MSEL_N can be asserted only while it is not,
that is, with the receiver IDLE (log entry 1). -/
def execMselAssertion (s : State) : Result :=
  match s.link.receiver with
  | .idle => .next (s.withLink { s.link with receiver := .receiving [], mrdy := false })
  | .receiving _ | .working | .responding _ | .done => .next s

/-- R159, R163. A deassertion: the receiver becomes IDLE and MRDY LOW. -/
def Link.deselect (l : Link) : Link := { l with receiver := .idle, mrdy := false }

/-- MSEL_N_DEASSERTION (R163). A partly received frame is discarded and counted as aborted (R147); a decided response
that is not yet in the buffer is completed. -/
def execMselDeassertion (s : State) : Result :=
  match s.link.receiver with
  | .idle => .next s
  | .receiving [] => .next (s.withLink s.link.deselect)
  | .receiving (_ :: _) =>
    .next (updGlobals (fun g => { g with aborted := satAdd g.aborted 1 }) (s.withLink s.link.deselect))
  | .working | .responding _ | .done => .next (s.withLink s.link.place.deselect)

/-- RESPONSE_FRAME_READY (R159, R164). The decided response is placed in the buffer and MRDY goes HIGH. No effect while
none waits (log entry 1). -/
def execResponseFrameReady (s : State) : Result :=
  match s.link.response with
  | some _ => .next (s.withLink { s.link.place with mrdy := true })
  | none => .next s

/-- LINK_CRC (R147, R160). -/
def linkCrc (seq : Byte) (s : State) : State :=
  respond seq true
    (fun s => (updGlobals (fun g => { g with crcErrors := satAdd g.crcErrors 1 }) s, { status := .linkCrc, payload := [] })) s

/-- LINK_LENGTH (R161). -/
def linkLength (seq : Byte) (s : State) : State := respond seq true (refusal .linkLength) s

/-- BAD_COMMAND (R162). -/
def badCommand (seq : Byte) (s : State) : State := respond seq true (refusal .badCommand) s

/-- LINK_CRC (R147, R160). -/
def execLinkCrc (seq : Byte) (s : State) : Result := .next (linkCrc seq s)

/-- LINK_LENGTH (R161). -/
def execLinkLength (seq : Byte) (s : State) : Result := .next (linkLength seq s)

/-- BAD_COMMAND (R162). -/
def execBadCommand (seq : Byte) (s : State) : Result := .next (badCommand seq s)

/-- R162. A frame that passes its CRC and code checks: its command's own rule decides. -/
def takeCommand (c : LinkCommand) (seq : Byte) (args : List Byte) (s : State) : State :=
  match c with
  | .status => respond seq true (cmdStatus args) s
  | .readSettings => respond seq true (cmdReadSettings args) s
  | .writeSettings => respond seq true (cmdWriteSettings args) s
  | .readStream => respond seq true (cmdReadStream args) s
  | .writeStream => respond seq true (cmdWriteStream args) s
  | .setStreamState => respond seq true (cmdSetStreamState args) s
  | .flushStream => respond seq true (cmdFlushStream args) s
  | .clearFlags => respond seq true (cmdClearFlags args) s
  | .readSlots => respond seq true (cmdReadSlots args) s
  | .writeSlots => respond seq true (cmdWriteSlots args) s
  | .setSlotCount => respond seq true (cmdSetSlotCount args) s
  | .commit => respond seq true (cmdCommit args) s
  | .engage => respond seq true (cmdEngage args) s
  | .disengage => respond seq true (cmdDisengage args) s
  | .quiesce => respond seq true (cmdQuiesce args) s
  | .resume => respond seq true (cmdResume args) s
  | .snapshot => respond seq true (cmdSnapshot args) s
  | .readSnapshot => respond seq true (cmdReadSnapshot args) s
  | .readEvents => respond seq true (cmdReadEvents args) s
  | .reset => respond seq true (cmdReset args) s
  | .repeatLast => repeatLast seq args s
  | .revertStaged => respond seq true (cmdRevertStaged args) s

/-- R159 to R162. A byte of a command frame: the frame goes on, or ends at this byte and is decided. -/
def receiveByte (bytes : List Byte) (s : State) : State :=
  match decodeFrame bytes with
  | .incomplete => s.withLink { s.link with receiver := .receiving bytes }
  | .badLength seq => linkLength seq s
  | .badCrc seq => linkCrc seq s
  | .badCode seq => badCommand seq s
  | .command c seq args => takeCommand c seq args s

/-- R159. One byte of the response has been shifted out. -/
def Link.shiftOut (p : Nat) (l : Link) : Link :=
  if p + 1 < (l.buffer.getD []).length then { l with receiver := .responding (p + 1) } else { l with receiver := .done }

/-- BYTE_BOUNDARY (R159). `mdi` is the byte received; it is ignored outside RECEIVING (log entry 9 for the boundary that
begins the response). -/
def execByteBoundary (mdi : Byte) (s : State) : Result :=
  match s.link.receiver with
  | .receiving bytes => .next (receiveByte (bytes ++ [mdi]) s)
  | .working => .next (if s.link.mrdy then s.withLink { s.link with receiver := .responding 0 } else s)
  | .responding p => .next (s.withLink (s.link.shiftOut p))
  | .idle | .done => .next s

end Sys2Proof.Machine
end

