-- ==== Sys2Proof/Machine/Dispatch.lean ====
section
/-! DEFINITION. One arm for each command. -/
namespace Sys2Proof.Machine
open Sys2Proof

def exec (i : Instr) (s : State) : Host.Outcome State Fault Refusal :=
  match i with
  | .powerOnReset => Sys2Proof.Machine.execPowerOnReset s
  | .tick fsync => Sys2Proof.Machine.execTick fsync s
  | .slotEnd => Sys2Proof.Machine.execSlotEnd s
  | .commitCompletion => Sys2Proof.Machine.execCommitCompletion s
  | .fsyncEdge level => Sys2Proof.Machine.execFsyncEdge level s
  | .syncQualification => Sys2Proof.Machine.execSyncQualification s
  | .syncTimeoutExpiry => Sys2Proof.Machine.execSyncTimeoutExpiry s
  | .requestOffer header data => Sys2Proof.Machine.execRequestOffer header data s
  | .deadlineCrossing => Sys2Proof.Machine.execDeadlineCrossing s
  | .dpReady => Sys2Proof.Machine.execDpReady s
  | .release => Sys2Proof.Machine.execRelease s
  | .engagementCompletion => Sys2Proof.Machine.execEngagementCompletion s
  | .quiesceCompletion => Sys2Proof.Machine.execQuiesceCompletion s
  | .streamAutomaticClose stream => Sys2Proof.Machine.execStreamAutomaticClose stream s
  | .responseArrival header data => Sys2Proof.Machine.execResponseArrival header data s
  | .responseTimeoutExpiry tag => Sys2Proof.Machine.execResponseTimeoutExpiry tag s
  | .mselAssertion => Sys2Proof.Machine.execMselAssertion s
  | .mselDeassertion => Sys2Proof.Machine.execMselDeassertion s
  | .responseFrameReady => Sys2Proof.Machine.execResponseFrameReady s
  | .linkCrc seq => Sys2Proof.Machine.execLinkCrc seq s
  | .linkLength seq => Sys2Proof.Machine.execLinkLength seq s
  | .badCommand seq => Sys2Proof.Machine.execBadCommand seq s
  | .status seq args => Sys2Proof.Machine.execStatus seq args s
  | .readSettings seq args => Sys2Proof.Machine.execReadSettings seq args s
  | .writeSettings seq args => Sys2Proof.Machine.execWriteSettings seq args s
  | .readStream seq args => Sys2Proof.Machine.execReadStream seq args s
  | .writeStream seq args => Sys2Proof.Machine.execWriteStream seq args s
  | .setStreamState seq args => Sys2Proof.Machine.execSetStreamState seq args s
  | .flushStream seq args => Sys2Proof.Machine.execFlushStream seq args s
  | .clearFlags seq args => Sys2Proof.Machine.execClearFlags seq args s
  | .readSlots seq args => Sys2Proof.Machine.execReadSlots seq args s
  | .writeSlots seq args => Sys2Proof.Machine.execWriteSlots seq args s
  | .setSlotCount seq args => Sys2Proof.Machine.execSetSlotCount seq args s
  | .commit seq args => Sys2Proof.Machine.execCommit seq args s
  | .engage seq args => Sys2Proof.Machine.execEngage seq args s
  | .disengage seq args => Sys2Proof.Machine.execDisengage seq args s
  | .quiesce seq args => Sys2Proof.Machine.execQuiesce seq args s
  | .resume seq args => Sys2Proof.Machine.execResume seq args s
  | .snapshot seq args => Sys2Proof.Machine.execSnapshot seq args s
  | .readSnapshot seq args => Sys2Proof.Machine.execReadSnapshot seq args s
  | .readEvents seq args => Sys2Proof.Machine.execReadEvents seq args s
  | .reset seq args => Sys2Proof.Machine.execReset seq args s
  | .repeatLast seq args => Sys2Proof.Machine.execRepeatLast seq args s
  | .revertStaged seq args => Sys2Proof.Machine.execRevertStaged seq args s
  | .byteBoundary mdi => Sys2Proof.Machine.execByteBoundary mdi s

end Sys2Proof.Machine
end

