-- ==== Sys2Proof/Safety.lean ====
section
/-! DEFINITION. What counts as a sound state of the block: the laws that the spec says hold "always", each a property
of one state. A safe run is one in which every state keeps them all. -/
namespace Sys2Proof.Machine
open Sys2Proof

/-- A record is not the OVERFLOW record (R130). -/
def EventRecord.isOrdinary (r : EventRecord) : Bool := !r.isOverflow

/-- R130, R131. At most 32 records, at most 31 of them ordinary, and every record but the youngest is ordinary. -/
abbrev EventQueueLaw (s : State) : Prop :=
  s.events.records.length ≤ 32 ∧ s.events.records.countP EventRecord.isOrdinary ≤ 31
    ∧ s.events.records.dropLast.all EventRecord.isOrdinary = true

/-- R57, R68. At most 128 requests and 384 units of write data are held, and no stream queue is above its limit. -/
abbrev StoreLaw (s : State) : Prop :=
  (allHeld s).length ≤ 128 ∧ ((allHeld s).map Descriptor.writeUnits).sum ≤ 384
    ∧ ∀ k : StreamId, queuedCount s k ≤ (s.streams.get k).queueLimit.toNat

/-- R5, R69. The reserves add up to at most 128, and the free descriptors plus the pass queue are never fewer than D. -/
abbrev ReserveLaw (s : State) : Prop :=
  ((List.finRange 24).map fun k => (s.streams.get k).reserve.toNat).sum ≤ 128
    ∧ ((List.finRange 24).map fun k => (s.streams.get k).reserve.toNat - (queueOf s k).length).sum
      ≤ freeDescriptors s + s.store.pass.length

/-- R14, R15. No stream's credit is above its cap, and a DISABLED stream has none. -/
abbrev CreditLaw (s : State) : Prop :=
  ∀ k : StreamId, (s.streams.get k).credit ≤ (s.streams.get k).cap
    ∧ ((s.streams.get k).state = .disabled → (s.streams.get k).credit = 0)

/-- R9, R12. A DISABLED stream holds no queued request and none in flight. -/
abbrev DisabledLaw (s : State) : Prop :=
  ∀ k : StreamId, (s.streams.get k).state = .disabled → queueOf s k = [] ∧ inFlightCount s k = 0

/-- 2.1, R23. The active bank is valid at all times, and a locked staged bank is the bank that passed validation. -/
abbrev ScheduleLaw (s : State) : Prop :=
  s.active.fault = none ∧ (s.ctl.pendingOp = .commit → s.staged.fault = none)

/-- 7.1. The mode, with its return mode, under which the Frame Timer is STOPPED. -/
def stoppedMode (c : Control) : Bool :=
  match c.mode with
  | .pass | .engaging => true
  | .regulate => false
  | .quiescing | .quiesced => c.returnMode = .pass

/-- R114, R127, and the table of 7.1. The pending operation, the mode and the timer state agree. -/
abbrev ModeLaw (s : State) : Prop :=
  (s.ctl.pendingOp = .engage ↔ s.ctl.mode = .engaging)
    ∧ (s.ctl.pendingOp = .quiesce ↔ s.ctl.mode = .quiescing)
    ∧ (s.ctl.pendingOp = .commit →
        s.ctl.mode = .regulate ∨ (s.ctl.mode = .quiesced ∧ s.ctl.returnMode = .regulate))
    ∧ (s.timer.state = .stopped ↔ stoppedMode s.ctl = true)

/-- R53. The timer runs a slot. -/
def TimerState.runsSlot : TimerState → Bool
  | .free | .locked | .holdover => true
  | .stopped | .waitSync => false

/-- R38, R41, R46, R50, R51, R53. A slot index exactly in the states that run a slot, below the slot count, with no
more ticks left than its length; a qualification only where the qualifier runs, its count not above Q; a pulse only in
FREE with the output enabled; a wait only in WAIT_SYNC; the counts within 16 bits. -/
abbrev TimerLaw (s : State) : Prop :=
  s.timer.slot.isSome = s.timer.state.runsSlot
    ∧ (∀ k : SlotId, s.timer.slot = some k →
        k.val < s.active.count ∧ s.timer.down ≤ (s.active.entries.get k).length.toNat)
    ∧ (s.timer.qualifier = .idle ∨
        qualifierRuns s = true ∧ ∃ c ≤ s.settings.q.toNat, s.timer.qualifier = .qualifying c)
    ∧ (s.timer.pulse = true → s.timer.state = .free ∧ s.settings.fsyncOut = true)
    ∧ (s.timer.state ≠ .waitSync → s.timer.waitCount = 0)
    ∧ s.timer.waitCount ≤ 65535 ∧ s.timer.holdover ≤ 65535

/-- R39, R54. FREE goes with SOURCE timing; WAIT_SYNC, LOCKED and HOLDOVER go with FOLLOW timing. -/
abbrev TimingLaw (s : State) : Prop :=
  (s.timer.state = .free → s.settings.timing = .source)
    ∧ (qualifierRuns s = true → s.settings.timing = .follow)

/-- R62. No two requests held queued or IN_FLIGHT carry the same initiator and transaction number. -/
abbrev TagLaw (s : State) : Prop := (heldTags s).Nodup

/-- R79. The stream queues are empty in PASS and in a quiesce from it; the pass queue is empty in REGULATE and in a
quiesce from it. -/
abbrev QueueLaw (s : State) : Prop :=
  (s.ctl.mode = .pass ∨ (s.ctl.mode = .quiescing ∨ s.ctl.mode = .quiesced) ∧ s.ctl.returnMode = .pass →
      ∀ k : StreamId, queueOf s k = [])
    ∧ (s.ctl.mode = .regulate ∨ (s.ctl.mode = .quiescing ∨ s.ctl.mode = .quiesced) ∧ s.ctl.returnMode = .regulate →
      s.store.pass = [])

/-- R61, R98. Every queued request and every request in flight or orphaned is 1 to 8 units long. -/
abbrev LengthLaw (s : State) : Prop :=
  (∀ d ∈ allHeld s, 1 ≤ d.length ∧ d.length ≤ 8)
    ∧ ∀ t : Tag, match s.table.get t with
        | .free => True
        | .inFlight h | .orphaned h => 1 ≤ h.length ∧ h.length ≤ 8

/-- R144. While a group's completed responses is 0, its latency minimum is FFFFFFFFh and its maximum and sum are 0. -/
abbrev LatencyLaw (s : State) : Prop :=
  ∀ k : StreamId, (s.stats.streams.get k).completed = 0#32 →
    (s.stats.streams.get k).latencyMin = 0xFFFFFFFF#32 ∧ (s.stats.streams.get k).latencyMax = 0#32
      ∧ (s.stats.streams.get k).latencySum = 0#32

/-- R161, Table 12-1. A response frame: its third byte is the payload length, at most 128. -/
def wholeFrame (f : List Byte) : Bool := f.length == (f.getD 2 0#8).toNat + 4 && (f.getD 2 0#8).toNat ≤ 128

/-- R159, R161, R163. A decided response waits only in WORKING with MRDY LOW; MRDY is HIGH only in WORKING, RESPONDING
and DONE, with a frame in the buffer; a received frame is incomplete; a position lies within the response; every
response held is a whole frame. -/
abbrev LinkLaw (s : State) : Prop :=
  (s.link.response.isSome = true → s.link.receiver = .working ∧ s.link.mrdy = false)
    ∧ (s.link.mrdy = true → s.link.buffer.isSome = true)
    ∧ (s.link.response.all fun r => wholeFrame r.frame) = true ∧ s.link.buffer.all wholeFrame = true
    ∧ s.link.retained.all wholeFrame = true
    ∧ match s.link.receiver with
      | .idle => s.link.mrdy = false
      | .receiving bytes => s.link.mrdy = false ∧ decodeFrame bytes = .incomplete
      | .working => s.link.mrdy = true ∨ s.link.response.isSome = true
      | .responding p => s.link.mrdy = true ∧ p < (s.link.buffer.getD []).length
      | .done => s.link.mrdy = true

/-- Every step from a state with `P` that answers a next state answers one with `P`. -/
def KeptByStep (P : State → Prop) : Prop := ∀ s t : State, P s → step s = .next t → P t

/-! ### What statements about commands are made of -/

/-- R159, R162, R164. `s` once a command of it has been decided with this status and payload: the receiver is WORKING
with MRDY LOW, and the response frame waits to be placed and retained. Nothing but the link differs from `s`. -/
def answer (seq : Byte) (st : Status) (payload : List Byte) (s : State) : State :=
  s.withLink
    { receiver := .working, response := some { frame := responseFrame st seq payload, retain := true },
      buffer := s.link.buffer, retained := s.link.retained, mrdy := false }

/-- R168. The number that bytes carry, most significant byte first. -/
def beNat (bs : List Byte) : Nat := bs.foldl (fun n b => 256 * n + b.toNat) 0

/-- R168. The number in the `size` bytes of `p` at `offset`, the first byte being offset 0. -/
def field (p : List Byte) (offset size : Nat) : Nat := beNat ((p.drop offset).take size)

/-- A flag as a number. -/
def flagNat (b : Bool) : Nat := if b then 1 else 0

/-- Table 12-4. Bit, offset and size of each setting in the settings block. -/
def settingsLayout : List (Nat × Nat × Nat) :=
  [(0, 0, 1), (1, 1, 1), (2, 2, 1), (3, 3, 1), (4, 4, 1), (5, 5, 2), (6, 7, 1), (7, 8, 1), (8, 9, 2), (9, 11, 1)]

/-- Table 12-5. Bit, offset and size of each field in the configuration block of a stream. -/
def streamLayout : List (Nat × Nat × Nat) :=
  [(0, 0, 4), (1, 4, 3), (2, 7, 3), (3, 10, 1), (4, 11, 2), (5, 13, 1), (6, 14, 1), (7, 15, 1), (8, 16, 1), (9, 17, 1),
   (10, 18, 1), (11, 19, 2), (12, 21, 1)]

/-- R28, Table 12-6. The sum of the lengths of a bank's used slots. -/
def usedLength (b : Bank) : Nat :=
  (((List.finRange 48).filter fun j => j.val < b.count).map fun j => (b.entries.get j).length.toNat).sum

/-- Table 12-6. The summary of a bank: its slot count, then its frame length in three bytes. -/
def summaryOf (b : Bank) : List Byte := natByte b.count :: bytes24 (BitVec.ofNat 24 (usedLength b))

/-- Table 12-6. The five bytes of `p` from `offset` carry the slot entry `e`: its owner, its stream number, its lend
flag and its length. -/
def SlotReported (e : SlotEntry) (p : List Byte) (offset : Nat) : Prop :=
  field p offset 1 = (match e.owner with | .stream => 0 | .openAll => 1 | .quiet => 2)
    ∧ field p (offset + 1) 1 = e.number.toNat ∧ field p (offset + 2) 1 = flagNat e.lend
    ∧ field p (offset + 3) 2 = e.length.toNat

/-- Table 12-7, R170. The code of an event kind: its place in Table 8-1, the first being 0. -/
def kindOrder : List EventKind :=
  [.refused, .late, .overBudget, .memoryError, .respTimeout, .lateResponse, .unexpectedResponse, .syncEarly, .syncLost,
   .syncRegained, .commitDone, .engaged, .disengaged, .quiesced, .operationCancelled, .streamClosed, .resetDone,
   .overflow]

/-- Table 12-7. The fifteen bytes of `p` from `offset` carry the event record `r`: in its first two bytes the kind
(bits 15–11), the stream or 31 (bits 10–6) and the slot or 63 (bits 5–0); then the initiator or FFh, the transaction
or 00h, the detail, the frame number and the tick stamp. -/
def RecordReported (r : EventRecord) (p : List Byte) (offset : Nat) : Prop :=
  field p offset 2 / 2048 = kindOrder.idxOf r.kind
    ∧ field p offset 2 / 64 % 32 = (match r.stream with | some k => k.val | none => 31)
    ∧ field p offset 2 % 64 = (match r.slot with | some k => k.val | none => 63)
    ∧ field p (offset + 2) 1 = (match r.request with | some q => q.1.toNat | none => 255)
    ∧ field p (offset + 3) 1 = (match r.request with | some q => q.2.toNat | none => 0)
    ∧ (r.detail < 2 ^ 24 → field p (offset + 4) 3 = r.detail)
    ∧ field p (offset + 7) 4 = r.frame.toNat ∧ field p (offset + 11) 4 = r.tick.toNat

/-- R168. `block` carries, in every field that `sel` selects, the same bytes as `values`; the other bytes are free. -/
def carries (layout : List (Nat × Nat × Nat)) (sel : BitVec 16) (values block : List Byte) : Prop :=
  ∀ f ∈ layout, sel.getLsbD f.1 = true → (block.drop f.2.1).take f.2.2 = (values.drop f.2.1).take f.2.2

/-- R167. The settings `old` with those that `sel` selects taken from `new`. -/
def Settings.choose (sel : BitVec 16) (new old : Settings) : Settings :=
  { prescaler := if sel.getLsbD 0 then new.prescaler else old.prescaler
    timing := if sel.getLsbD 1 then new.timing else old.timing
    fsyncOut := if sel.getLsbD 2 then new.fsyncOut else old.fsyncOut
    edge := if sel.getLsbD 3 then new.edge else old.edge
    q := if sel.getLsbD 4 then new.q else old.q
    syncTimeout := if sel.getLsbD 5 then new.syncTimeout else old.syncTimeout
    gap := if sel.getLsbD 6 then new.gap else old.gap
    defaultStream := if sel.getLsbD 7 then new.defaultStream else old.defaultStream
    responseTimeout := if sel.getLsbD 8 then new.responseTimeout else old.responseTimeout
    mask := if sel.getLsbD 9 then new.mask else old.mask }

/-- R3. The entry `old` with the configuration fields that `sel` selects taken from `new`. -/
def StreamEntry.choose (sel : BitVec 16) (new old : StreamEntry) : StreamEntry :=
  { old with
    initiatorSet := if sel.getLsbD 0 then new.initiatorSet else old.initiatorSet
    pageBase := if sel.getLsbD 1 then new.pageBase else old.pageBase
    pageLimit := if sel.getLsbD 2 then new.pageLimit else old.pageLimit
    kinds := if sel.getLsbD 3 then new.kinds else old.kinds
    reload := if sel.getLsbD 4 then new.reload else old.reload
    carry := if sel.getLsbD 5 then new.carry else old.carry
    overBudget := if sel.getLsbD 6 then new.overBudget else old.overBudget
    fullPolicy := if sel.getLsbD 7 then new.fullPolicy else old.fullPolicy
    openShare := if sel.getLsbD 8 then new.openShare else old.openShare
    queueLimit := if sel.getLsbD 9 then new.queueLimit else old.queueLimit
    reserve := if sel.getLsbD 10 then new.reserve else old.reserve
    deadline := if sel.getLsbD 11 then new.deadline else old.deadline
    maxInFlight := if sel.getLsbD 12 then new.maxInFlight else old.maxInFlight }

/-- Table 12-4. The payload `p` of READ_SETTINGS and WRITE_SETTINGS: the settings `c` and the global latches of `e`. -/
def SettingsReported (c : Settings) (e : Events) (p : List Byte) : Prop :=
  p.length = 13 ∧ field p 0 1 = c.prescaler.code.toNat ∧ field p 1 1 = c.timing.code.toNat
    ∧ field p 2 1 = flagNat c.fsyncOut ∧ field p 3 1 = c.edge.code.toNat ∧ field p 4 1 = c.q.toNat
    ∧ field p 5 2 = c.syncTimeout.toNat ∧ field p 7 1 = c.gap.code.toNat
    ∧ field p 8 1 = (match c.defaultStream with | some k => k.val | none => 255)
    ∧ field p 9 2 = c.responseTimeout.toNat ∧ field p 11 1 = c.mask.toNat
    ∧ field p 12 1 = flagNat e.portRefuseSeen + 2 * flagNat e.earlySeen

/-- Table 12-5. The payload `p` of READ_STREAM and WRITE_STREAM: stream `k`'s entry as it is in `s`. -/
def StreamReported (s : State) (k : StreamId) (p : List Byte) : Prop :=
  let e := s.streams.get k
  p.length = 35 ∧ field p 0 1 = k.val ∧ field p 1 1 = e.state.code.toNat ∧ field p 2 4 = e.initiatorSet.toNat
    ∧ field p 6 3 = e.pageBase.toNat ∧ field p 9 3 = e.pageLimit.toNat ∧ field p 12 1 = e.kinds.code.toNat
    ∧ field p 13 2 = e.reload.toNat ∧ field p 15 1 = flagNat e.carry ∧ field p 16 1 = e.overBudget.code.toNat
    ∧ field p 17 1 = e.fullPolicy.code.toNat ∧ field p 18 1 = flagNat e.openShare
    ∧ field p 19 1 = e.queueLimit.toNat ∧ field p 20 1 = e.reserve.toNat ∧ field p 21 2 = e.deadline.toNat
    ∧ field p 23 1 = e.maxInFlight.toNat ∧ field p 24 3 = e.credit
    ∧ field p 27 3 = (if e.carry then 2 * e.reload.toNat else e.reload.toNat)
    ∧ field p 30 1 = (queueOf s k).length ∧ field p 31 2 = ((queueOf s k).map (·.length)).sum
    ∧ field p 33 1 = inFlightCount s k
    ∧ field p 34 1 = flagNat e.refusedSeen + 2 * flagNat e.lateSeen + 4 * flagNat e.heldSeen

/-- R3. The selected values lie in the ranges of Table 1-1, and the reserve after the write is not above the queue
limit after it. `e` is the entry after the write. -/
def StreamEntry.inRanges (sel : BitVec 16) (e : StreamEntry) : Prop :=
  (sel.getLsbD 9 = true → 1 ≤ e.queueLimit.toNat ∧ e.queueLimit.toNat ≤ 128)
    ∧ (sel.getLsbD 10 = true → e.reserve.toNat ≤ 128)
    ∧ (sel.getLsbD 12 = true → 1 ≤ e.maxInFlight.toNat ∧ e.maxInFlight.toNat ≤ 48)
    ∧ e.reserve.toNat ≤ e.queueLimit.toNat

/-- R60. The mode evaluates what is offered. -/
def Mode.admits : Mode → Bool | .pass | .engaging | .regulate => true | .quiescing | .quiesced => false

/-- R79. The modes, with the return mode, in which the pass queue releases. -/
def releasesPass (c : Control) : Prop :=
  c.mode = .pass ∨ c.mode = .engaging ∨ (c.mode = .quiescing ∧ c.returnMode = .pass)

/-- R79. The modes, with the return mode, in which the stream queues release by window. -/
def releasesByWindow (c : Control) : Prop :=
  c.mode = .regulate ∨ (c.mode = .quiescing ∧ c.returnMode = .regulate)

/-- R100. `t` is the lowest-numbered FREE entry. -/
def lowestFree (s : State) (t : Tag) : Prop := s.table.get t = .free ∧ ∀ u < t, s.table.get u ≠ .free

/-- R57. How many requests are held queued, in the 24 stream queues and the pass queue. -/
def heldCount (s : State) : Nat :=
  ((List.finRange 24).map fun k => (queueOf s k).length).sum + s.store.pass.length

/-- The state that a command answers; `s` itself where it answers none. -/
def run (c : Instr) (s : State) : State := match exec c s with | .next t => t | _ => s

/-- Log entry 2, the model's choice. What a TICK takes first: the events that are due and have not been commanded,
each as its own row takes it, in this order. -/
def settled (s : State) : State :=
  let judged := run (.fsyncEdge s.timer.sample) s
  let timed :=
    run .syncTimeoutExpiry (run .slotEnd (run .syncQualification
      { judged with timer := { judged.timer with line := s.timer.line } }))
  let crossed := (run .deadlineCrossing)^[((List.finRange 24).map fun k => (queueOf timed k).length).sum] timed
  run .release ((List.finRange 48).foldl (fun t e => run (.responseTimeoutExpiry e) t) crossed)

/-- Nothing is due at the present instant: a TICK finds nothing left over. -/
def nothingDue (s : State) : Bool :=
  (judgeSample s == s) && !qualificationDue s && !slotEndDue s && !syncTimeoutDue s && (oldestDue s).isNone
    && ((List.finRange numTags).all fun t => (expiryDue s t).isNone) && (releaseDue s).isNone

/-- R154, R153. The request that a response answers, the request that a descriptor or an entry keeps: its upstream
tag. -/
abbrev UpTag : Type := BitVec 5 × Byte

/-- R62, R151, R153. The upstream tags of the requests the block has taken or holds offered, and of the responses it
has emitted since power-on. -/
def tagsSeen (s : State) : List UpTag :=
  heldTags s ++ s.port.offer.toList.map (fun r => (r.initiator, r.transaction))
    ++ s.port.sent.map fun r => (r.initiator, r.transaction)

end Sys2Proof.Machine
end

