-- ==== Sys2Proof/WellFormed.lean ====
section
/-! DEFINITION. Which commands the partners of the block can send: the record and frame forms of
12_formats_and_encodings.md that a constructor's operands do not fix by their types. -/
namespace Sys2Proof

/-- R171. A WRITE with a length encoding of 1 to 8 carries that many units; every other request carries none. -/
def UpRequest.dataUnits (r : UpRequest) : Nat :=
  if r.kind = .write ∧ 1 ≤ r.length ∧ r.length ≤ 8 then r.length else 0

/-- A command in a form that its sender can give it. -/
def Instr.wellFormed : Instr → Bool
  | .requestOffer header data => data.length == (decodeUpRequest header data).dataUnits
  | .responseArrival header data => data.length == downResponseUnits header
  | .status _ args | .readSettings _ args | .writeSettings _ args | .readStream _ args | .writeStream _ args
  | .setStreamState _ args | .flushStream _ args | .clearFlags _ args | .readSlots _ args | .writeSlots _ args
  | .setSlotCount _ args | .commit _ args | .engage _ args | .disengage _ args | .quiesce _ args | .resume _ args
  | .snapshot _ args | .readSnapshot _ args | .readEvents _ args | .reset _ args | .repeatLast _ args
  | .revertStaged _ args => args.length ≤ 128
  | .powerOnReset | .tick _ | .slotEnd | .commitCompletion | .fsyncEdge _ | .syncQualification
  | .syncTimeoutExpiry | .deadlineCrossing | .dpReady | .release | .engagementCompletion | .quiesceCompletion
  | .streamAutomaticClose _ | .responseTimeoutExpiry _ | .mselAssertion | .mselDeassertion | .responseFrameReady
  | .linkCrc _ | .linkLength _ | .badCommand _ | .byteBoundary _ => true

end Sys2Proof
end

