-- ==== Sys2Proof/Certificates/Slice0/Obligations.lean ====
section
/-! DEFINITION. The statements for the provers. A link command is stated for every state `s₀`; `s := placeResponse s₀` is
`s₀` itself but for a response that was decided and never placed, which is placed first (R163, log entry 10). A result
is written as a whole state, so each statement says what stays as well as what changes. Where a result ends in
`reevaluate`, the spec has a stalled request evaluated again once the event's effects are made (R73); that this comes
last, after the event's records and payload, is the model's reading (log entry 17). A link command's row is its whole
frame, taken from any state of the receiver (log entry 8, the model's choice); `port.sent` and `dp.sent` are the model's
record of what the ports have emitted (log entry 11); the age of an admission sequence is measured back from the next
value (R58, log entry 24). -/
open Sys2Proof Sys2Proof.Machine

/-! ### The step and the link -/

/-- The command at the front of the queue runs on the state with the queue's rest; an empty queue idles (log entry 3,
the model's choice). -/
def Obligations.StepRunsTheFrontCommand : Prop :=
  (∀ (c : Instr) (rest : List Instr) (s : State), s.pending = c :: rest → step s = exec c (s.withPending rest)) ∧
  (∀ (c : Instr) (s : State), step (s.withPending (c :: s.pending)) = exec c s) ∧
  (∀ s : State, s.pending = [] → step s = .next s)

/-- 11.1, 11.2, 11.7, R160, Table 12-1, 12.2 to 12.5, R168. Frames written out byte by byte: the STATUS frame of 11.2,
the same with its CRC changed, a READ_EVENTS frame cut before its CRC, a length byte of 81h, and an unknown code with
a good CRC. A response frame is status code, sequence, length, payload and the CRC-8 of those; the CRC starts at FFh
and takes each byte in eight shifts with the polynomial 07h. Numbers are carried most significant byte first. The
codes of every enumeration. -/
def Obligations.WrittenFramesDecode : Prop :=
  decodeFrame [0x01#8, 0x05#8, 0x00#8, 0x01#8] = .command .status 0x05#8 [] ∧
  decodeFrame [0x01#8, 0x05#8, 0x00#8, 0x02#8] = .badCrc 0x05#8 ∧
  decodeFrame [0x13#8, 0x2A#8, 0x01#8, 0x02#8] = .incomplete ∧
  decodeFrame [0x13#8, 0x2A#8, 0x81#8] = .badLength 0x2A#8 ∧
  decodeFrame [0x17#8, 0x05#8, 0x00#8, crc8 [0x17#8, 0x05#8, 0x00#8]] = .badCode 0x05#8 ∧
  (decodeUpRequest 0x5#64 []).unitAddr = 5#31 ∧
  decodeUpRequest 0xFFFFFFFFFFFFFFFF#64 [] =
    { initiator := 31#5, transaction := 255#8, kind := .write, unitAddr := 0x7FFFFFFF#31, length := 15, group := 3#2,
      data := [] } ∧
  (∀ (st : Status) (seq : Byte) (payload : List Byte),
    let bytes : List Byte := st.code :: seq :: natByte payload.length :: payload
    responseFrame st seq payload = bytes ++ [crc8 bytes]) ∧
  (crc8 [] = 0xFF#8 ∧ ∀ (bytes : List Byte) (b : Byte),
    crc8 (bytes ++ [b]) =
      (List.range 8).foldl (fun c _ => if c.getLsbD 7 then (c <<< 1) ^^^ 0x07#8 else c <<< 1) (crc8 bytes ^^^ b)) ∧
  (∀ (n : Nat) (w16 : BitVec 16) (w24 : BitVec 24) (w32 : BitVec 32),
    field [natByte n] 0 1 = n % 256 ∧
    (bytes16 w16).length = 2 ∧ field (bytes16 w16) 0 2 = w16.toNat ∧
    (bytes24 w24).length = 3 ∧ field (bytes24 w24) 0 3 = w24.toNat ∧
    (bytes32 w32).length = 4 ∧ field (bytes32 w32) 0 4 = w32.toNat) ∧
  [Status.ok, .started, .busy, .badCommand, .badArgument, .badState, .linkCrc, .linkLength, .noData].map Status.code =
    [0x00#8, 0x01#8, 0x02#8, 0x03#8, 0x04#8, 0x05#8, 0x06#8, 0x07#8, 0x08#8] ∧
  [Mode.pass, .engaging, .regulate, .quiescing, .quiesced].map Mode.code = [0#8, 1#8, 2#8, 3#8, 4#8] ∧
  [TimerState.stopped, .free, .waitSync, .locked, .holdover].map TimerState.code = [0#8, 1#8, 2#8, 3#8, 4#8] ∧
  [PendingOp.none, .commit, .engage, .quiesce].map PendingOp.code = [0#8, 1#8, 2#8, 3#8] ∧
  [Reason.malformed, .duplicate, .unclassified, .closed, .full, .overBudget, .flushed, .reset].map Reason.code =
    [1, 2, 3, 4, 5, 6, 7, 8] ∧
  [StreamState.disabled, .active, .paused, .draining].map StreamState.code = [0#8, 1#8, 2#8, 3#8] ∧
  [Kinds.read, .write, .both].map Kinds.code = [0#8, 1#8, 2#8] ∧
  [OverBudget.hold, .lend, .refuse].map OverBudget.code = [0#8, 1#8, 2#8] ∧
  [FullPolicy.stall, .refuse].map FullPolicy.code = [0#8, 1#8] ∧
  [Prescaler.by1, .by2, .by16, .by128].map Prescaler.code = [0#8, 1#8, 2#8, 3#8] ∧
  [Timing.source, .follow].map Timing.code = [0#8, 1#8] ∧ [SyncEdge.rising, .falling].map SyncEdge.code = [0#8, 1#8] ∧
  [GapPolicy.openAll, .quiet].map GapPolicy.code = [0#8, 1#8] ∧
  [UpStatus.ok, .memoryError, .timeout, .refused .full].map UpStatus.code = [0#2, 1#2, 2#2, 3#2] ∧
  (∀ r : Reason, (UpStatus.refused r).reasonCode.toNat = r.code) ∧
  [UpStatus.ok, .memoryError, .timeout].map UpStatus.reasonCode = [0#4, 0#4, 0#4] ∧
  Kind.ofBit 0#1 = .read ∧ Kind.ofBit 1#1 = .write

/-- Table 12-1, 11.6, R159 to R162. A command frame is the command's code, the sequence, the length, the argument
bytes and their CRC. Every one of up to 128 argument bytes is read back as the command it carries, and no proper
beginning of it is complete. The twenty-two commands have the codes 01h to 16h and are the rows of their names. -/
def Obligations.CommandFramesRoundTrip : Prop :=
  (∀ (c : LinkCommand) (seq : Byte) (args : List Byte),
    let bytes : List Byte := c.code :: seq :: natByte args.length :: args
    encodeFrame c seq args = bytes ++ [crc8 bytes]) ∧
  (∀ (seq : Byte) (args : List Byte),
    [LinkCommand.status, .readSettings, .writeSettings, .readStream, .writeStream, .setStreamState, .flushStream,
      .clearFlags, .readSlots, .writeSlots, .setSlotCount, .commit, .engage, .disengage, .quiesce, .resume, .snapshot,
      .readSnapshot, .readEvents, .reset, .repeatLast, .revertStaged].map (fun c => (c.code.toNat, c.instr seq args)) =
    [(0x01, .status seq args), (0x02, .readSettings seq args), (0x03, .writeSettings seq args),
     (0x04, .readStream seq args), (0x05, .writeStream seq args), (0x06, .setStreamState seq args),
     (0x07, .flushStream seq args), (0x08, .clearFlags seq args), (0x09, .readSlots seq args),
     (0x0A, .writeSlots seq args), (0x0B, .setSlotCount seq args), (0x0C, .commit seq args), (0x0D, .engage seq args),
     (0x0E, .disengage seq args), (0x0F, .quiesce seq args), (0x10, .resume seq args), (0x11, .snapshot seq args),
     (0x12, .readSnapshot seq args), (0x13, .readEvents seq args), (0x14, .reset seq args), (0x15, .repeatLast seq args),
     (0x16, .revertStaged seq args)]) ∧
  ∀ (c : LinkCommand) (seq : Byte) (args : List Byte), args.length ≤ 128 →
    decodeFrame (encodeFrame c seq args) = .command c seq args ∧
    (decodeFrame (encodeFrame c seq args)).instr = some (c.instr seq args) ∧
    ∀ n < (encodeFrame c seq args).length, decodeFrame ((encodeFrame c seq args).take n) = .incomplete

/-- 12.4, R171. Headers received are read back field by field whatever their Reserved bits hold; headers sent carry
each field at its bits, and 0 in their Reserved bits. -/
def Obligations.PortHeadersCarryTheirFields : Prop :=
  (∀ (r : UpRequest) (reserved : BitVec 13), r.length ≤ 15 →
    decodeUpRequest (encodeUpRequest r reserved) r.data = r) ∧
  (∀ (r : DownResponse) (reserved : BitVec 21) (more : List DataUnit), r.data.length ≤ 15 →
    downResponseUnits (encodeDownResponse r reserved) = r.data.length ∧
    decodeDownResponse (encodeDownResponse r reserved) (r.data ++ more) = r) ∧
  (∀ r : UpResponse, r.data.length ≤ 15 →
    r.header.extractLsb' 27 5 = r.initiator ∧ r.header.extractLsb' 19 8 = r.transaction ∧
    r.header.extractLsb' 17 2 = r.status.code ∧ r.header.extractLsb' 13 4 = r.status.reasonCode ∧
    (r.header.extractLsb' 9 4).toNat = r.data.length ∧ r.header.extractLsb' 0 9 = 0#9) ∧
  (∀ r : DownRequest, r.length ≤ 8 →
    (r.header.extractLsb' 58 6).toNat = r.tag.val ∧ Kind.ofBit (r.header.extractLsb' 57 1) = r.kind ∧
    (r.header.extractLsb' 53 4).toNat = r.length ∧ r.header.extractLsb' 31 22 = 0#22 ∧
    r.header.extractLsb' 0 31 = r.unitAddr)

/-- R159, R162. The byte that completes a command frame runs the command the frame carries. What the row of a command
is, its whole frame, is the model's choice (log entry 8). -/
def Obligations.LastByteRunsTheCommand : Prop :=
  ∀ (s : State) (bytes args : List Byte) (b seq : Byte) (c : LinkCommand),
    s.link.receiver = .receiving bytes → args.length ≤ 128 → bytes ++ [b] = encodeFrame c seq args →
    exec (.byteBoundary b) s = exec (c.instr seq args) s

/-- R147, R160, R161, R162. A frame with a wrong CRC, a length byte above 128, or an unknown code is answered and not
executed; only the first raises a counter. The byte that shows the fault has the same effect as the row. That
the rows are taken from any state of the receiver is the model's choice (log entry 8). -/
def Obligations.FaultyFramesAreAnswered : Prop :=
  (∀ (s₀ : State) (seq : Byte),
    let s := placeResponse s₀
    exec (.linkCrc seq) s₀ =
      .next (answer seq .linkCrc []
        { s with
          stats :=
            { s.stats with
              globals := { s.stats.globals with crcErrors := satAdd s.stats.globals.crcErrors 1 } } }) ∧
    exec (.linkLength seq) s₀ = .next (answer seq .linkLength [] s) ∧
    exec (.badCommand seq) s₀ = .next (answer seq .badCommand [] s)) ∧
  (∀ (s : State) (code seq len crc : Byte) (args : List Byte),
    s.link.receiver = .receiving (code :: seq :: len :: args) → len.toNat ≤ 128 → args.length = len.toNat →
    (crc ≠ crc8 (code :: seq :: len :: args) → exec (.byteBoundary crc) s = exec (.linkCrc seq) s) ∧
    (crc = crc8 (code :: seq :: len :: args) → code.toNat = 0 ∨ 0x16 < code.toNat →
      exec (.byteBoundary crc) s = exec (.badCommand seq) s)) ∧
  (∀ (s : State) (code seq len : Byte),
    s.link.receiver = .receiving [code, seq] → 128 < len.toNat →
    exec (.byteBoundary len) s = exec (.linkLength seq) s)

/-- R158, R159, R163, R164. The lines of the link: selection, the bytes of a frame that is not yet complete, the
response placed and shifted out byte by byte, and a deselection in each state of the receiver. The model's choices
are: which boundary begins the response (log entry 9), and that a selection while selected, RESPONSE_FRAME_READY with
no response waiting and a deselection in IDLE have no effect (log entry 1). -/
def Obligations.ReceiverFollowsTheLines : Prop :=
  (∀ s : State,
    exec .mselAssertion s = .next
      (if s.link.receiver = .idle then { s with link := { s.link with receiver := .receiving [], mrdy := false } } else s)) ∧
  (∀ (s : State) (bytes : List Byte) (b : Byte),
    s.link.receiver = .receiving bytes → decodeFrame (bytes ++ [b]) = .incomplete →
    exec (.byteBoundary b) s = .next { s with link := { s.link with receiver := .receiving (bytes ++ [b]) } }) ∧
  (∀ (s : State) (r : Reply), s.link.response = some r →
    exec .responseFrameReady s = .next
      { s with
        link :=
          { receiver := s.link.receiver, response := none, buffer := some r.frame,
            retained := if r.retain then some r.frame else s.link.retained, mrdy := true } }) ∧
  (∀ s : State, s.link.response = none → exec .responseFrameReady s = .next s) ∧
  (∀ (s : State) (b : Byte), s.link.receiver = .working →
    exec (.byteBoundary b) s = .next
      (if s.link.mrdy then { s with link := { s.link with receiver := .responding 0 } } else s)) ∧
  (∀ (s : State) (b : Byte) (p : Nat) (frame : List Byte),
    s.link.receiver = .responding p → s.link.buffer = some frame → p < frame.length →
    mdo s = frame[p]? ∧
    exec (.byteBoundary b) s = .next
      { s with link := { s.link with receiver := if p + 1 < frame.length then .responding (p + 1) else .done } }) ∧
  (∀ (s : State) (b : Byte), s.link.receiver = .done → mdo s = some 0xFF#8 ∧ exec (.byteBoundary b) s = .next s) ∧
  (∀ (s : State) (b : Byte), s.link.receiver = .idle →
    mdo s = none ∧ exec (.byteBoundary b) s = .next s ∧ exec .mselDeassertion s = .next s) ∧
  (∀ s : State, s.link.receiver = .receiving [] →
    exec .mselDeassertion s = .next { s with link := { s.link with receiver := .idle, mrdy := false } }) ∧
  (∀ (s : State) (b : Byte) (bytes : List Byte), s.link.receiver = .receiving (b :: bytes) →
    exec .mselDeassertion s = .next
      { s with
        link := { s.link with receiver := .idle, mrdy := false }
        stats := { s.stats with globals := { s.stats.globals with aborted := satAdd s.stats.globals.aborted 1 } } }) ∧
  (∀ s : State, (s.link.receiver = .working ∨ s.link.receiver = .done ∨ ∃ p, s.link.receiver = .responding p) →
    exec .mselDeassertion s = .next
      { s with link := { (placeResponse s).link with receiver := .idle, mrdy := false } })

/-- R165. REPEAT_LAST answers with the retained last response byte for byte, or NO_DATA, or BAD_ARGUMENT with argument
bytes, and executes nothing. Its own response is never retained, so a second REPEAT_LAST finds the same one. -/
def Obligations.RepeatLastReturnsTheRetainedResponse : Prop :=
  ∀ (s₀ : State) (seq : Byte) (args : List Byte),
    let s := placeResponse s₀
    let reply (frame : List Byte) : State :=
      { s with
        link :=
          { receiver := .working, response := some { frame := frame, retain := false }, buffer := s.link.buffer,
            retained := s.link.retained, mrdy := false } }
    (∀ last : List Byte, s.link.retained = some last → args = [] → exec (.repeatLast seq args) s₀ = .next (reply last)) ∧
    (s.link.retained = none → args = [] →
      exec (.repeatLast seq args) s₀ = .next (reply (responseFrame .noData seq []))) ∧
    (args ≠ [] → exec (.repeatLast seq args) s₀ = .next (reply (responseFrame .badArgument seq []))) ∧
    (∀ t u : State, exec (.repeatLast seq args) s₀ = .next t →
      exec .responseFrameReady t = .next u ∨ exec .mselDeassertion t = .next u → u.link.retained = s.link.retained)

/-! ### Settings and status -/

/-- R166, Table 12-3. STATUS changes nothing and reports fourteen items of one instant in 21 bytes. -/
def Obligations.StatusReportsTheState : Prop :=
  (∀ (s₀ : State) (seq : Byte),
    exec (.status seq []) s₀ = .next (answer seq .ok (statusPayload (placeResponse s₀)) (placeResponse s₀))) ∧
  (∀ (s₀ : State) (seq b : Byte) (args : List Byte),
    exec (.status seq (b :: args)) s₀ = .next (answer seq .badArgument [] (placeResponse s₀))) ∧
  (∀ s : State, StoreLaw s → EventQueueLaw s →
    let p := statusPayload s
    p.length = 21 ∧ field p 0 1 = s.ctl.mode.code.toNat ∧ field p 1 1 = s.timer.state.code.toNat ∧
    field p 2 1 = s.ctl.pendingOp.code.toNat ∧ field p 3 4 = s.timer.frame.toNat ∧
    field p 7 1 = (match s.timer.slot with | some k => k.val | none => 255) ∧ field p 8 4 = s.timer.tick.toNat ∧
    field p 12 1 + heldCount s = 128 ∧
    field p 13 2 + ((((List.finRange 24).flatMap fun k => queueOf s k) ++ s.store.pass).map fun d =>
      if d.kind = .write then d.length else 0).sum = 384 ∧
    field p 15 1 = s.store.pass.length ∧ field p 16 1 = s.table.cells.countP Entry.isInFlight ∧
    field p 17 1 = s.table.cells.countP Entry.isOrphaned ∧ field p 18 1 = s.events.records.length ∧
    (field p 19 1 = 1 ↔ attn s = true) ∧
    field p 19 1 ≤ 1 ∧ field p 20 1 = 1)

/-- R167, Table 12-4. READ_SETTINGS changes nothing and reports the ten settings and the two global latches. -/
def Obligations.ReadSettingsReportsTheSettings : Prop :=
  (∀ (s₀ : State) (seq : Byte),
    exec (.readSettings seq []) s₀ = .next (answer seq .ok (settingsPayload (placeResponse s₀)) (placeResponse s₀))) ∧
  (∀ (s₀ : State) (seq b : Byte) (args : List Byte),
    exec (.readSettings seq (b :: args)) s₀ = .next (answer seq .badArgument [] (placeResponse s₀))) ∧
  (∀ s : State, SettingsReported s.settings s.events (settingsPayload s))

/-- R54, R55, R167, R168, Table 12-4. WRITE_SETTINGS: arguments out of form, out of range or with a Reserved bit are
refused first; then a selected prescaler, timing source, sync edge or Q needs a STOPPED timer; otherwise the selected
settings are written at one instant, and the events the write brings follow: the sync timeout's expiry, the response
timeouts' expiries, the evaluation of a stalled request under a new default stream. The expiry of the response
timeouts is that of each entry that is due, from the lowest tag (R105). The model's choices are: the payload taken
before these events (log entry 17), their order among themselves (log entry 25), and the divider as the count it was
last loaded with (log entry 4). -/
def Obligations.WriteSettingsWritesTheSelection : Prop :=
  ∀ (s₀ : State) (seq : Byte) (args : List Byte),
    let s := placeResponse s₀
    (∀ (sel : BitVec 16) (new : Settings),
      args.length = 14 → field args 0 2 = sel.toNat → sel.toNat < 1024 → field args 13 1 < 32 →
      carries settingsLayout sel new.bytes (args.drop 2) →
      ((sel.getLsbD 0 || sel.getLsbD 1 || sel.getLsbD 3 || sel.getLsbD 4) = true → s.timer.state ≠ .stopped →
        exec (.writeSettings seq args) s₀ = .next (answer seq .badState [] s)) ∧
      ((sel.getLsbD 0 || sel.getLsbD 1 || sel.getLsbD 3 || sel.getLsbD 4) = false ∨ s.timer.state = .stopped →
        let c := Settings.choose sel new s.settings
        let s1 : State :=
          { s with
            settings := c
            timer :=
              { s.timer with
                divider := if c.prescaler = s.settings.prescaler then s.timer.divider
                  else match c.prescaler with | .by1 => 1 | .by2 => 2 | .by16 => 16 | .by128 => 128
                pulse := s.timer.pulse && c.fsyncOut } }
        let s2 := if sel.getLsbD 5 = true ∧ s1.timer.state = .waitSync ∧ c.syncTimeout ≠ 0#16
            ∧ c.syncTimeout.toNat ≤ s1.timer.waitCount then expireSync s1 else s1
        let s3 := if sel.getLsbD 8 = true then expireAll s2 else s2
        let s4 := if sel.getLsbD 7 = true then reevaluate s3 else s3
        exec (.writeSettings seq args) s₀ = .next (answer seq .ok (settingsPayload s1) s4))) ∧
    ((args.length ≠ 14 ∨ 1024 ≤ field args 0 2 ∨ 32 ≤ field args 13 1 ∨
        ∀ (sel : BitVec 16) (new : Settings), field args 0 2 = sel.toNat →
          ¬ carries settingsLayout sel new.bytes (args.drop 2)) →
      exec (.writeSettings seq args) s₀ = .next (answer seq .badArgument [] s)) ∧
    (∀ t : State,
      (settingsPayload t).take 12 = t.settings.bytes ∧
      expireAll t = (List.finRange 48).foldl (fun u e => run (.responseTimeoutExpiry e) u) t ∧
      ∀ e : Tag, exec (.responseTimeoutExpiry e) t = .next (run (.responseTimeoutExpiry e) t))

/-! ### Streams -/

/-- R2, Table 12-5. READ_STREAM changes nothing and reports the whole entry of a stream 0 to 23 at one instant. -/
def Obligations.ReadStreamReportsTheEntry : Prop :=
  (∀ (s₀ : State) (seq n : Byte) (k : StreamId), n.toNat = k.val →
    exec (.readStream seq [n]) s₀ = .next (answer seq .ok (streamPayload (placeResponse s₀) k) (placeResponse s₀))) ∧
  (∀ (s₀ : State) (seq : Byte) (args : List Byte), (args.length ≠ 1 ∨ ∃ n, args = [n] ∧ 24 ≤ n.toNat) →
    exec (.readStream seq args) s₀ = .next (answer seq .badArgument [] (placeResponse s₀))) ∧
  (∀ (s : State) (k : StreamId), StoreLaw s → CreditLaw s → LengthLaw s → StreamReported s k (streamPayload s k))

/-- R3 to R6, R16, R73, R168, Table 12-5. WRITE_STREAM: the argument checks, then the state checks against the values
in force, then all selected fields at one instant, with the credit lowered to a new cap and the queued requests past a
new deadline crossing it, oldest first; answered with the entry after the write, and a stalled request is evaluated
again. That the answer is taken after the crossings and before that evaluation is the model's choice (log entry 17). -/
def Obligations.WriteStreamWritesTheSelection : Prop :=
  ∀ (s₀ : State) (seq : Byte) (args : List Byte),
    let s := placeResponse s₀
    (∀ (k : StreamId) (sel : BitVec 16) (new : StreamEntry),
      let e := s.streams.get k
      let e1 := StreamEntry.choose sel new e
      let after := s.streams.set k e1
      let refusedByState : Prop :=
        (e.state ≠ .disabled ∧ (sel.getLsbD 0 || sel.getLsbD 1 || sel.getLsbD 2 || sel.getLsbD 3) = true) ∨
        (sel.getLsbD 9 = true ∧ e1.queueLimit.toNat < (queueOf s k).length) ∨
        (sel.getLsbD 10 = true ∧
          (128 < ((List.finRange 24).map fun j => (after.get j).reserve.toNat).sum ∨
            freeDescriptors s + s.store.pass.length
              < ((List.finRange 24).map fun j => (after.get j).reserve.toNat - (queueOf s j).length).sum))
      args.length = 25 → field args 0 1 = k.val → field args 1 2 = sel.toNat → sel.toNat < 8192 →
      carries streamLayout sel new.configBytes (args.drop 3) → e1.inRanges sel →
      (refusedByState → exec (.writeStream seq args) s₀ = .next (answer seq .badState [] s)) ∧
      (¬ refusedByState →
        let e2 := if sel.getLsbD 4 || sel.getLsbD 5 then
            { e1 with credit := min e1.credit (if e1.carry then 2 * e1.reload.toNat else e1.reload.toNat) }
          else e1
        let s1 : State := { s with streams := s.streams.set k e2 }
        let due (d : Descriptor) : Bool :=
          e1.deadline ≠ 0#16 && !d.late && e1.deadline.toNat ≤ (s.timer.tick - d.admTick).toNat
        let s2 := if sel.getLsbD 11 then ((queueOf s k).filter due).foldl (fun t d => cross k d t) s1 else s1
        exec (.writeStream seq args) s₀ = .next (answer seq .ok (streamPayload s2 k) (reevaluate s2)))) ∧
    ((args.length ≠ 25 ∨ 24 ≤ field args 0 1 ∨ 8192 ≤ field args 1 2 ∨
        ∀ (k : StreamId) (sel : BitVec 16) (new : StreamEntry), field args 0 1 = k.val → field args 1 2 = sel.toNat →
          carries streamLayout sel new.configBytes (args.drop 3) →
          ¬ (StreamEntry.choose sel new (s.streams.get k)).inRanges sel) →
      exec (.writeStream seq args) s₀ = .next (answer seq .badArgument [] s)) ∧
    (∀ (t : State) (k : StreamId), ((streamPayload t k).drop 2).take 22 = (t.streams.get k).configBytes)

/-- R8 to R11, R13, R73. SET_STREAM_STATE: every cell of R8's table. An enable sets the credit to the reload; a close
disables a stream that holds nothing at once, with STREAM_CLOSED, and leaves any other DRAINING; pauses, resumes and
reopens change the state alone. The answer is the state after the command. -/
def Obligations.SetStreamStateFollowsTheTable : Prop :=
  (∀ (s₀ : State) (seq n b : Byte) (k : StreamId) (target : StreamState),
    n.toNat = k.val → b = target.code →
    let s := placeResponse s₀
    let e := s.streams.get k
    let put (e' : StreamEntry) : State := { s with streams := s.streams.set k e' }
    let taken (st : StreamState) (t : State) : Prop :=
      exec (.setStreamState seq [n, b]) s₀ = .next (answer seq .ok [st.code] (reevaluate (quiesceIfDue t)))
    let refused (st : Status) : Prop := exec (.setStreamState seq [n, b]) s₀ = .next (answer seq st [] s)
    (e.state = target ∨ (e.state = .draining ∧ target = .disabled) → taken e.state s) ∧
    (e.state = .disabled → target = .active ∨ target = .paused →
      (e.initiatorSet = 0#32 ∨ e.pageLimit.toNat < e.pageBase.toNat → refused .badArgument) ∧
      (e.initiatorSet ≠ 0#32 → e.pageBase.toNat ≤ e.pageLimit.toNat →
        taken target (put { e with state := target, credit := e.reload.toNat }))) ∧
    (e.state = .disabled → target = .draining → refused .badState) ∧
    (e.state = .draining → target = .paused → refused .badState) ∧
    ((e.state = .active ∧ target = .paused) ∨ (e.state = .paused ∧ target = .active) ∨
        (e.state = .draining ∧ target = .active) →
      taken target (put { e with state := target })) ∧
    (e.state = .active ∨ e.state = .paused → target = .draining ∨ target = .disabled →
      (queueOf s k = [] → inFlightCount s k = 0 →
        taken .disabled
          (recordNow .streamClosed (some k) none 0 s.timer.slot (put { e with state := .disabled, credit := 0 }))) ∧
      (queueOf s k ≠ [] ∨ inFlightCount s k ≠ 0 → taken .draining (put { e with state := .draining })))) ∧
  (∀ (s₀ : State) (seq : Byte) (args : List Byte),
    (args.length ≠ 2 ∨ ∃ n b, args = [n, b] ∧ (24 ≤ n.toNat ∨ 4 ≤ b.toNat)) →
    exec (.setStreamState seq args) s₀ = .next (answer seq .badArgument [] (placeResponse s₀)))

/-- R18, R19, R73, R122. FLUSH_STREAM: every queued request of the stream is answered REFUSED FLUSHED, head first, and
counted; one REFUSED event at most, by the latch; the queue is empty; then a DRAINING stream with nothing in flight
closes, a quiesce may complete, and a stalled request is evaluated again. -/
def Obligations.FlushAnswersTheWholeQueue : Prop :=
  (∀ (s₀ : State) (seq n : Byte) (k : StreamId), n.toNat = k.val →
    let s := placeResponse s₀
    let q := queueOf s k
    let g := s.stats.streams.get k
    let s1 : State :=
      { s with
        store := { s.store with queues := s.store.queues.set k [] }
        port :=
          { s.port with
            sent := s.port.sent ++ q.map fun d =>
              { initiator := d.initiator, transaction := d.transaction, status := .refused .flushed, data := [] } }
        stats :=
          { s.stats with
            streams := s.stats.streams.set k { g with refusedRequests := satAdd g.refusedRequests q.length } } }
    let s2 :=
      match q with
      | [] => s1
      | d :: _ =>
        if (s.streams.get k).refusedSeen then s1
        else
          { recordNow .refused (some k) (some (d.initiator, d.transaction)) 7 s.timer.slot s1 with
            streams := s.streams.set k { s.streams.get k with refusedSeen := true } }
    exec (.flushStream seq [n]) s₀ = .next
      (answer seq .ok [natByte q.length] (reevaluate (quiesceIfDue (closeIfDrained k s2))))) ∧
  (∀ (s₀ : State) (seq : Byte) (args : List Byte), (args.length ≠ 1 ∨ ∃ n, args = [n] ∧ 24 ≤ n.toNat) →
    exec (.flushStream seq args) s₀ = .next (answer seq .badArgument [] (placeResponse s₀)))

/-- R136. CLEAR_FLAGS: the selected latches of the target become clear, and the answer is how many of them were set. -/
def Obligations.ClearFlagsClearsTheSelection : Prop :=
  ∀ (s₀ : State) (seq target sel : Byte), sel.toNat < 32 →
    let s := placeResponse s₀
    let cleared (e : StreamEntry) : StreamEntry :=
      { e with
        refusedSeen := if sel.getLsbD 0 then false else e.refusedSeen
        lateSeen := if sel.getLsbD 1 then false else e.lateSeen
        heldSeen := if sel.getLsbD 2 then false else e.heldSeen }
    let count (e : StreamEntry) : Nat :=
      flagNat (sel.getLsbD 0 && e.refusedSeen) + flagNat (sel.getLsbD 1 && e.lateSeen)
        + flagNat (sel.getLsbD 2 && e.heldSeen)
    let events : Events :=
      { s.events with
        portRefuseSeen := if sel.getLsbD 3 then false else s.events.portRefuseSeen
        earlySeen := if sel.getLsbD 4 then false else s.events.earlySeen }
    let globalCount : Nat :=
      flagNat (sel.getLsbD 3 && s.events.portRefuseSeen) + flagNat (sel.getLsbD 4 && s.events.earlySeen)
    let refused : Prop := exec (.clearFlags seq [target, sel]) s₀ = .next (answer seq .badArgument [] s)
    (∀ k : StreamId, target.toNat = k.val →
      (8 ≤ sel.toNat → refused) ∧
      (sel.toNat < 8 →
        exec (.clearFlags seq [target, sel]) s₀ = .next
          (answer seq .ok [natByte (count (s.streams.get k))]
            { s with streams := s.streams.set k (cleared (s.streams.get k)) }))) ∧
    (target = 0x40#8 →
      ((sel.getLsbD 0 || sel.getLsbD 1 || sel.getLsbD 2) = true → refused) ∧
      ((sel.getLsbD 0 || sel.getLsbD 1 || sel.getLsbD 2) = false →
        exec (.clearFlags seq [target, sel]) s₀ = .next (answer seq .ok [natByte globalCount] { s with events := events }))) ∧
    (target = 0x41#8 →
      exec (.clearFlags seq [target, sel]) s₀ = .next
        (answer seq .ok [natByte (((List.finRange 24).map fun k => count (s.streams.get k)).sum + globalCount)]
          { s with streams := s.streams.map cleared, events := events })) ∧
    (24 ≤ target.toNat → target ≠ 0x40#8 → target ≠ 0x41#8 → refused) ∧
    (∀ (t r : Byte) (args : List Byte), (args.length ≠ 2 ∨ args = [t, r] ∧ 32 ≤ r.toNat) →
      exec (.clearFlags seq args) s₀ = .next (answer seq .badArgument [] s))

/-! ### Schedule -/

/-- R27, Table 12-6. READ_SLOTS changes nothing and reports the selected bank's summary and the entries asked for,
used or not, in index order, each with its owner, stream number, lend and length at their offsets. -/
def Obligations.ReadSlotsReportsTheBank : Prop :=
  ∀ (s₀ : State) (seq bank first count : Byte),
    let s := placeResponse s₀
    let report (b : Bank) : List Byte :=
      summaryOf b
        ++ ((List.finRange 48).filter fun j => first.toNat ≤ j.val ∧ j.val < first.toNat + count.toNat).flatMap fun j =>
            (b.entries.get j).bytes
    (first.toNat ≤ 47 → 1 ≤ count.toNat → count.toNat ≤ 16 → first.toNat + count.toNat ≤ 48 →
      (bank = 0x00#8 → exec (.readSlots seq [bank, first, count]) s₀ = .next (answer seq .ok (report s.active) s)) ∧
      (bank = 0x01#8 → exec (.readSlots seq [bank, first, count]) s₀ = .next (answer seq .ok (report s.staged) s)) ∧
      ∀ b : Bank, (report b).length = 4 + 5 * count.toNat ∧
        ∀ (i : Nat) (j : SlotId), i < count.toNat → j.val = first.toNat + i →
          SlotReported (b.entries.get j) (report b) (4 + 5 * i)) ∧
    (1 < bank.toNat ∨ 47 < first.toNat ∨ count.toNat = 0 ∨ 16 < count.toNat ∨ 48 < first.toNat + count.toNat →
      exec (.readSlots seq [bank, first, count]) s₀ = .next (answer seq .badArgument [] s)) ∧
    (∀ args : List Byte, args.length ≠ 3 →
      exec (.readSlots seq args) s₀ = .next (answer seq .badArgument [] s))

/-- R23, R24, Table 12-6. WRITE_SLOTS with 1 to 16 entries within the bank replaces exactly those entries of the
staged bank, or is refused BUSY while the staged bank is locked; any other argument bytes are refused BAD_ARGUMENT,
locked or not. An entry is carried in five bytes: owner, stream number, lend, length. -/
def Obligations.WriteSlotsReplacesTheEntries : Prop :=
  ∀ (s₀ : State) (seq : Byte) (args : List Byte),
    let s := placeResponse s₀
    let proper (first count : Byte) (es : List SlotEntry) : Prop :=
      args = first :: count :: es.flatMap SlotEntry.bytes ∧ es.length = count.toNat ∧ 1 ≤ count.toNat ∧
        count.toNat ≤ 16 ∧ first.toNat + count.toNat ≤ 48 ∧ ∀ e ∈ es, e.owner = .stream ∨ e.number = 0#5
    (∀ (first count : Byte) (es : List SlotEntry), proper first count es →
      (s.ctl.pendingOp = .commit → exec (.writeSlots seq args) s₀ = .next (answer seq .busy [] s)) ∧
      (s.ctl.pendingOp ≠ .commit → ∃ b : Bank,
        exec (.writeSlots seq args) s₀ = .next (answer seq .ok (summaryOf b) { s with staged := b }) ∧
        b.count = s.staged.count ∧
        ∀ j : SlotId, b.entries.get j =
          (if first.toNat ≤ j.val then es[j.val - first.toNat]?.getD (s.staged.entries.get j)
           else s.staged.entries.get j))) ∧
    ((¬ ∃ first count es, proper first count es) →
      exec (.writeSlots seq args) s₀ = .next (answer seq .badArgument [] s)) ∧
    (∀ e : SlotEntry, e.bytes.length = 5 ∧ SlotReported e e.bytes 0)

/-- R25. SET_SLOT_COUNT: 49 to 255 is refused BAD_ARGUMENT; 0 to 48 is checked against the lock and becomes the staged
slot count, the entries untouched; answered with the staged summary, whose frame length sums the used slots. -/
def Obligations.SetSlotCountSetsTheStagedCount : Prop :=
  ∀ (s₀ : State) (seq n : Byte) (args : List Byte),
    let s := placeResponse s₀
    (48 < n.toNat → exec (.setSlotCount seq [n]) s₀ = .next (answer seq .badArgument [] s)) ∧
    (n.toNat ≤ 48 → s.ctl.pendingOp = .commit → exec (.setSlotCount seq [n]) s₀ = .next (answer seq .busy [] s)) ∧
    (n.toNat ≤ 48 → s.ctl.pendingOp ≠ .commit →
      exec (.setSlotCount seq [n]) s₀ = .next
        (answer seq .ok
          (summaryOf { s.staged with count := n.toNat }) { s with staged := { s.staged with count := n.toNat } })) ∧
    (args.length ≠ 1 → exec (.setSlotCount seq args) s₀ = .next (answer seq .badArgument [] s))

/-- R26. REVERT_STAGED copies the whole active bank into the staged bank, unless the lock refuses it; the active bank
is left as it is. -/
def Obligations.RevertStagedCopiesTheActiveBank : Prop :=
  ∀ (s₀ : State) (seq : Byte) (args : List Byte),
    let s := placeResponse s₀
    (args = [] → s.ctl.pendingOp = .commit → exec (.revertStaged seq args) s₀ = .next (answer seq .busy [] s)) ∧
    (args = [] → s.ctl.pendingOp ≠ .commit →
      exec (.revertStaged seq args) s₀ = .next
        (answer seq .ok (summaryOf s.active) { s with staged := s.active })) ∧
    (args ≠ [] → exec (.revertStaged seq args) s₀ = .next (answer seq .badArgument [] s))

/-- R21, R28. Validation: a bank is valid exactly when the four checks hold, and otherwise the first failure in the
order COUNT, then LENGTH and OWNER slot by slot, then FRAME is reported with its slot. -/
def Obligations.ValidationReportsTheFirstFailure : Prop :=
  ∀ b : Bank,
    let bad (j : SlotId) : Prop :=
      (b.entries.get j).length = 0#12 ∨ ((b.entries.get j).owner = .stream ∧ 24 ≤ (b.entries.get j).number.toNat)
    let total : Nat := (((List.finRange 48).filter fun j => j.val < b.count).map fun j => (b.entries.get j).length.toNat).sum
    (b.fault = none ↔ 1 ≤ b.count ∧ b.count ≤ 48 ∧ (∀ j : SlotId, j.val < b.count → ¬ bad j) ∧ total ≤ 65535) ∧
    (b.count = 0 ∨ 48 < b.count → b.fault = some (.count, 0xFF#8)) ∧
    (∀ j : SlotId, 1 ≤ b.count → b.count ≤ 48 → j.val < b.count → (∀ i < j, ¬ bad i) → bad j →
      b.fault = some (if (b.entries.get j).length = 0#12 then .length else .owner, natByte j.val)) ∧
    (1 ≤ b.count → b.count ≤ 48 → (∀ j : SlotId, j.val < b.count → ¬ bad j) → 65535 < total →
      b.fault = some (.frame, 0xFF#8))

/-- R28 to R30. COMMIT, its four cases in order: BUSY, the failing check, completion at once with a STOPPED timer, or
a pending commit. The failing check is answered as 01h COUNT, 02h LENGTH, 03h OWNER or 04h FRAME with its slot. -/
def Obligations.CommitIsDecidedInOrder : Prop :=
  ∀ (s₀ : State) (seq : Byte) (args : List Byte),
    let s := placeResponse s₀
    (args ≠ [] → exec (.commit seq args) s₀ = .next (answer seq .badArgument [] s)) ∧
    (args = [] → s.ctl.pendingOp ≠ .none → exec (.commit seq args) s₀ = .next (answer seq .busy [] s)) ∧
    (args = [] → s.ctl.pendingOp = .none → ∀ (c : Check) (k : Byte), s.staged.fault = some (c, k) →
      exec (.commit seq args) s₀ = .next
        (answer seq .badArgument
          [match c with | .count => 0x01#8 | .length => 0x02#8 | .owner => 0x03#8 | .frame => 0x04#8, k] s)) ∧
    (args = [] → s.ctl.pendingOp = .none → s.staged.fault = none → s.timer.state = .stopped →
      exec (.commit seq args) s₀ = .next
        (answer seq .ok (summaryOf s.staged)
          (recordNow .commitDone none none s.staged.count none { s with active := s.staged }))) ∧
    (args = [] → s.ctl.pendingOp = .none → s.staged.fault = none → s.timer.state ≠ .stopped →
      exec (.commit seq args) s₀ = .next
        (answer seq .started (summaryOf s.staged) { s with ctl := { s.ctl with pendingOp := .commit } }))

/-! ### Modes -/

/-- R116, R117, R39. ENGAGE in PASS: with the pass queue empty the engagement completes at once, the timer starts by
its timing source, and ENGAGED is recorded with 0 releases; otherwise it is pending. A stalled request is evaluated
again. -/
def Obligations.EngageStartsOrWaits : Prop :=
  ∀ (s₀ : State) (seq : Byte),
    let s := placeResponse s₀
    s.ctl.mode = .pass → s.ctl.pendingOp = .none →
    (s.store.pass ≠ [] →
      exec (.engage seq []) s₀ = .next
        (answer seq .started []
          (reevaluate { s with ctl := { s.ctl with mode := .engaging, pendingOp := .engage, engaged := 0 } }))) ∧
    (s.store.pass = [] → s.settings.timing = .source →
      exec (.engage seq []) s₀ = .next
        (answer seq .ok []
          (reevaluate (recordNow .engaged none none 0 none
            (frameStart none
              { s with
                ctl := { s.ctl with mode := .regulate, pendingOp := .none, engaged := 0 }
                timer := { s.timer with state := .free } }))))) ∧
    (s.store.pass = [] → s.settings.timing = .follow →
      exec (.engage seq []) s₀ = .next
        (answer seq .ok []
          (reevaluate (recordNow .engaged none none 0 none
            { s with
              ctl := { s.ctl with mode := .regulate, pendingOp := .none, engaged := 0 }
              timer :=
                { s.timer with
                  state := .waitSync, slot := none, down := 0, waitCount := 0, qualifier := .idle,
                  reference := s.timer.line, sample := s.timer.line } }))))

/-- R118 to R120, R40, R32. DISENGAGE: in PASS nothing; in ENGAGING the cancellation, in REGULATE the stop, a pending
COMMIT's completion and DISENGAGED; then every stream-queued request moves behind the pass queue, oldest first, each
DRAINING stream that holds nothing closes, and a stalled request is evaluated again under PASS. -/
def Obligations.DisengageMergesInAdmissionOrder : Prop :=
  ∀ (s₀ : State) (seq : Byte),
    let s := placeResponse s₀
    let queued : List Descriptor := (List.finRange 24).flatMap fun k => queueOf s k
    let merged := queued.length
    let stopped : State :=
      { s with
        timer :=
          { s.timer with
            state := .stopped, slot := none, down := 0, qualifier := .idle, waitCount := 0, holdover := 0,
            pulse := false }
        engine := { s.engine with outcome := none } }
    let committed : State :=
      if s.ctl.pendingOp = .commit then
        recordNow .commitDone none none s.staged.count none
          { stopped with active := s.staged, ctl := { s.ctl with pendingOp := .none } }
      else stopped
    let left : State :=
      if s.ctl.mode = .engaging then recordNow .operationCancelled none none 2 none s
      else recordNow .disengaged none none merged none committed
    (s.ctl.mode = .pass → exec (.disengage seq []) s₀ = .next (answer seq .ok [0x00#8] s)) ∧
    (s.ctl.mode = .engaging ∨ s.ctl.mode = .regulate →
      ∃ moved : List Descriptor, moved.Perm queued ∧
        moved.Pairwise (fun a b => (s.store.nextSeq - b.seq).toNat ≤ (s.store.nextSeq - a.seq).toNat) ∧
        exec (.disengage seq []) s₀ = .next
          (answer seq .ok [natByte merged]
            (reevaluate
              ((List.finRange 24).foldl (fun t k => closeIfDrained k t)
                { left with
                  store :=
                    { s.store with queues := Table.replicate numStreams [], pass := s.store.pass ++ moved }
                  ctl := { s.ctl with mode := .pass, pendingOp := .none } }))))

/-- R121, R122, R124. QUIESCE in PASS or REGULATE keeps the mode as the return mode; it completes at once when its
condition holds and is pending otherwise. RESUME returns to the return mode, with a cancellation only in QUIESCING. -/
def Obligations.QuiesceAndResume : Prop :=
  ∀ (s₀ : State) (seq : Byte) (back : ReturnMode),
    let s := placeResponse s₀
    let s1 : State := { s with ctl := { s.ctl with mode := .quiescing, returnMode := back } }
    let idle : Prop :=
      (∀ t : Tag, (s.table.get t).isInFlight = false) ∧
      (match back with
        | .pass => s.store.pass = []
        | .regulate => ∀ k : StreamId, queueOf s k = [] ∨ (s.streams.get k).state = .paused)
    (s.ctl.mode = back.mode → s.ctl.pendingOp = .none →
      (idle → exec (.quiesce seq []) s₀ = .next
        (answer seq .ok []
          (reevaluate (recordNow .quiesced none none (if back = .pass then 0 else 2) none
            { s1 with ctl := { s1.ctl with mode := .quiesced } })))) ∧
      (¬ idle → exec (.quiesce seq []) s₀ = .next
        (answer seq .started [] (reevaluate { s1 with ctl := { s1.ctl with pendingOp := .quiesce } })))) ∧
    (s.ctl.returnMode = back → s.ctl.mode = .quiescing →
      exec (.resume seq []) s₀ = .next
        (answer seq .ok [back.mode.code]
          (reevaluate (recordNow .operationCancelled none none 3 none
            { s with ctl := { s.ctl with mode := back.mode, pendingOp := .none } })))) ∧
    (s.ctl.returnMode = back → s.ctl.mode = .quiesced →
      exec (.resume seq []) s₀ = .next
        (answer seq .ok [back.mode.code] (reevaluate { s with ctl := { s.ctl with mode := back.mode } })))

/-- R115. The refusals of R115's table, cell by cell, and argument bytes on a mode command, BAD_ARGUMENT in every
mode. A refused command changes nothing. -/
def Obligations.ModeTableRefusals : Prop :=
  ∀ (s₀ : State) (seq b : Byte) (args : List Byte),
    let s := placeResponse s₀
    let refused (c : Instr) (st : Status) : Prop := exec c s₀ = .next (answer seq st [] s)
    (s.ctl.mode = .pass → s.ctl.pendingOp = .none → refused (.resume seq []) .badState) ∧
    (s.ctl.mode = .engaging → s.ctl.pendingOp = .engage →
      refused (.commit seq []) .busy ∧ refused (.engage seq []) .busy ∧ refused (.quiesce seq []) .badState ∧
      refused (.resume seq []) .badState) ∧
    (s.ctl.mode = .regulate → s.ctl.pendingOp = .none →
      refused (.engage seq []) .badState ∧ refused (.resume seq []) .badState) ∧
    (s.ctl.mode = .regulate → s.ctl.pendingOp = .commit →
      refused (.commit seq []) .busy ∧ refused (.engage seq []) .busy ∧ refused (.quiesce seq []) .busy ∧
      refused (.resume seq []) .badState) ∧
    (s.ctl.mode = .quiescing → s.ctl.pendingOp = .quiesce →
      refused (.commit seq []) .busy ∧ refused (.engage seq []) .busy ∧ refused (.disengage seq []) .badState ∧
      refused (.quiesce seq []) .busy) ∧
    (s.ctl.mode = .quiesced → s.ctl.pendingOp = .none →
      refused (.engage seq []) .badState ∧ refused (.disengage seq []) .badState ∧
      refused (.quiesce seq []) .badState) ∧
    (s.ctl.mode = .quiesced → s.ctl.pendingOp = .commit →
      refused (.commit seq []) .busy ∧ refused (.engage seq []) .busy ∧ refused (.disengage seq []) .badState ∧
      refused (.quiesce seq []) .busy) ∧
    refused (.engage seq (b :: args)) .badArgument ∧ refused (.disengage seq (b :: args)) .badArgument ∧
    refused (.quiesce seq (b :: args)) .badArgument ∧ refused (.resume seq (b :: args)) .badArgument

/-! ### Statistics, events, resets -/

/-- R140, R148 to R150, Tables 9-1, 9-2 and 12-8. SNAPSHOT copies one group with the frame number and tick, and clears
that group alone when asked; READ_SNAPSHOT returns the buffer, every counter at its offset, and leaves it, or answers
NO_DATA. A counter that rises stays at FFFFFFFFh. -/
def Obligations.SnapshotCapturesOneGroup : Prop :=
  ∀ (s₀ : State) (seq target clear : Byte),
    let s := placeResponse s₀
    let captured (c : GroupCopy) : Snapshot := { copy := c, frame := s.timer.frame, tick := s.timer.tick }
    let head : List Byte := target :: (bytes32 s.timer.frame ++ bytes32 s.timer.tick)
    (∀ k : StreamId, target.toNat = k.val → clear.toNat ≤ 1 →
      exec (.snapshot seq [target, clear]) s₀ = .next
        (answer seq .ok head
          { s with
            stats :=
              { s.stats with
                snapshot := some (captured (.stream k (s.stats.streams.get k)))
                streams := if clear.toNat = 1 then s.stats.streams.set k StreamStats.reset else s.stats.streams } })) ∧
    (target = 0x40#8 → clear.toNat ≤ 1 →
      exec (.snapshot seq [target, clear]) s₀ = .next
        (answer seq .ok head
          { s with
            stats :=
              { s.stats with
                snapshot := some (captured (.global s.stats.globals))
                globals := if clear.toNat = 1 then GlobalStats.reset else s.stats.globals } })) ∧
    (1 < clear.toNat ∨ (24 ≤ target.toNat ∧ target ≠ 0x40#8) →
      exec (.snapshot seq [target, clear]) s₀ = .next (answer seq .badArgument [] s)) ∧
    (∀ args : List Byte, args.length ≠ 2 →
      exec (.snapshot seq args) s₀ = .next (answer seq .badArgument [] s)) ∧
    (s.stats.snapshot = none → exec (.readSnapshot seq []) s₀ = .next (answer seq .noData [] s)) ∧
    (∀ b : Snapshot, s.stats.snapshot = some b → ∃ p : List Byte,
      exec (.readSnapshot seq []) s₀ = .next (answer seq .ok p s) ∧
      field p 0 1 = (match b.copy with | .stream k _ => k.val | .global _ => 0x40) ∧
      field p 1 4 = b.frame.toNat ∧ field p 5 4 = b.tick.toNat ∧
      (let counters : List Word :=
        match b.copy with
        | .stream _ g =>
          [g.admittedRequests, g.admittedUnits, g.refusedRequests, g.highWater, g.chargedUnits, g.borrowedUnits,
           g.lateRequests, g.slotsUsed, g.slotsIdle, g.slotsBlocked, g.completed, g.memoryErrors, g.timeouts,
           g.latencyMin, g.latencyMax, g.latencySum]
        | .global g =>
          [g.framesStarted, g.earlySyncs, g.glitches, g.syncLosses, g.syncRegains, g.passReleases, g.unexpected,
           g.lateResponses, g.timeouts, g.crcErrors, g.aborted, g.eventsLost]
      p.length = 9 + 4 * counters.length ∧
      ∀ j : Nat, j < counters.length → field p (9 + 4 * j) 4 = (counters.getD j 0#32).toNat)) ∧
    (∀ (a : Byte) (args : List Byte),
      exec (.readSnapshot seq (a :: args)) s₀ = .next (answer seq .badArgument [] s)) ∧
    (∀ (c : Word) (n : Nat), (satAdd c n).toNat = min (c.toNat + n) 0xFFFFFFFF)

/-- R133. READ_EVENTS: 0 or above 8 records is refused; an empty queue answers NO_DATA; otherwise the oldest records,
as many as asked for and held, leave the queue and are returned with their number and the number still held, and
nothing else changes. A returned record stands in its fifteen bytes with every field at its offset (Table 12-7, R170). -/
def Obligations.ReadEventsTakesTheOldest : Prop :=
  ∀ (s₀ : State) (seq k : Byte) (args : List Byte),
    let s := placeResponse s₀
    (args.length ≠ 1 ∨ args = [k] ∧ (k.toNat = 0 ∨ 8 < k.toNat) →
      exec (.readEvents seq args) s₀ = .next (answer seq .badArgument [] s)) ∧
    (1 ≤ k.toNat → k.toNat ≤ 8 → s.events.records = [] →
      exec (.readEvents seq [k]) s₀ = .next (answer seq .noData [] s)) ∧
    (∀ taken held : List EventRecord, 1 ≤ k.toNat → k.toNat ≤ 8 → s.events.records = taken ++ held → taken ≠ [] →
      taken.length = min k.toNat s.events.records.length →
      let p : List Byte := natByte taken.length :: natByte held.length :: taken.flatMap EventRecord.bytes
      exec (.readEvents seq [k]) s₀ = .next
        (answer seq .ok p { s with events := { s.events with records := held } }) ∧
      p.length = 2 + 15 * taken.length ∧
      ∀ (j : Nat) (r : EventRecord), taken[j]? = some r → RecordReported r p (2 + 15 * j))

/-- R125, R1, R20, R38, R57, R58, R74, R77, R111, R113, R138, R140, R167. The RESET command: every queued request is
answered REFUSED RESET, oldest first across all queues; every block takes its reset values, the tick counter running
on, the Outstanding Table kept without streams, the Event Queue holding RESET_DONE alone; then a stalled request is
evaluated under PASS. `line` and `sample`, which the RESET leaves, and `frameTick` are the model's (log entry 15). -/
def Obligations.ResetCommandRefusesInAdmissionOrder : Prop :=
  ∀ (s₀ : State) (seq : Byte),
    let s := placeResponse s₀
    (∀ (b : Byte) (args : List Byte), exec (.reset seq (b :: args)) s₀ = .next (answer seq .badArgument [] s)) ∧
    ∃ refused : List Descriptor,
      refused.Perm (((List.finRange 24).flatMap fun k => queueOf s k) ++ s.store.pass) ∧
      refused.Pairwise (fun a b => (s.store.nextSeq - b.seq).toNat ≤ (s.store.nextSeq - a.seq).toNat) ∧
      exec (.reset seq []) s₀ = .next
        (answer seq .ok [natByte refused.length]
          (reevaluate
            { State.reset with
              port :=
                { s.port with
                  sent := s.port.sent ++ refused.map fun d =>
                    { initiator := d.initiator, transaction := d.transaction, status := .refused .reset, data := [] } }
              dp := s.dp
              timer :=
                { Timer.reset with
                  tick := s.timer.tick, line := s.timer.line, sample := s.timer.sample
                  divider := if s.settings.prescaler = .by1 then s.timer.divider else 1 }
              table := s.table.map Entry.forget
              events :=
                { Events.reset with
                  records :=
                    [{ kind := .resetDone, stream := none, request := none, detail := refused.length, frame := 0#32,
                       slot := none, tick := s.timer.tick }] }
              link := s.link
              pending := s.pending }))

/-- R99. Power-on reset makes all 48 entries FREE; at the RESET command every entry keeps its state and every field
but its stream, which becomes NONE. -/
def Obligations.OutstandingTableAtTheResets : Prop :=
  (∀ (s t : State) (e : Tag), exec .powerOnReset s = .next t → t.table.get e = .free) ∧
  (∀ (s t : State) (seq : Byte) (e : Tag), exec (.reset seq []) s = .next t →
    t.table.get e =
      match s.table.get e with
      | .free => .free
      | .inFlight h => .inFlight { h with stream := .nobody }
      | .orphaned h => .orphaned { h with stream := .nobody }) ∧
  (∀ (s : State) (seq : Byte), (∃ t, exec .powerOnReset s = .next t) ∧ ∃ t, exec (.reset seq []) s = .next t)

/-- R1, R20, R38, R57, R58, R77, R99, R113, R138, R140, R158, R167. Power-on reset gives every block its power-on
values, which are those of `State.reset`. The model's choices are: that the waiting commands and the level of FSYNC
are kept and the last sample becomes that level (log entry 14), and within `State.reset` the tick of the last frame
start and the releases since ENGAGE, both 0, which the statement's whole state includes (log entry 15). -/
def Obligations.PowerOnResetGivesTheResetValues : Prop :=
  (∀ s : State,
    exec .powerOnReset s = .next
      { State.reset with
        timer := { Timer.reset with line := s.timer.line, sample := s.timer.line }, pending := s.pending }) ∧
  (∀ k : StreamId, State.reset.streams.get k =
    { state := .disabled, initiatorSet := 0#32, pageBase := 0#24, pageLimit := 0#24, kinds := .both, reload := 0#16,
      carry := false, overBudget := .hold, fullPolicy := .refuse, openShare := false, queueLimit := 16#8,
      reserve := 0#8, deadline := 0#16, maxInFlight := 48#8, credit := 0, refusedSeen := false, lateSeen := false,
      heldSeen := false } ∧
    queueOf State.reset k = [] ∧ (State.reset.stats.streams.get k).counters =
      List.replicate 13 0#32 ++ [0xFFFFFFFF#32, 0#32, 0#32]) ∧
  (∀ j : SlotId, State.reset.active.entries.get j =
    { owner := .openAll, number := 0#5, lend := false, length := 1000#12 }) ∧
  State.reset.active.count = 1 ∧ State.reset.staged = State.reset.active ∧
  (∀ t : Tag, State.reset.table.get t = .free) ∧
  State.reset.store.pass = [] ∧ State.reset.store.nextSeq = 0#32 ∧ freeDescriptors State.reset = 128 ∧
  freeUnits State.reset = 384 ∧ State.reset.port.offer = none ∧ State.reset.dp.ready = false ∧
  settingsPayload State.reset =
    [0x00#8, 0x00#8, 0x00#8, 0x00#8, 0x02#8, 0x00#8, 0x00#8, 0x01#8, 0xFF#8, 0x00#8, 0x00#8, 0x1A#8, 0x00#8] ∧
  State.reset.timer.state = .stopped ∧ State.reset.timer.tick = 0#32 ∧ State.reset.timer.frame = 0#32 ∧
  State.reset.timer.slot = none ∧ State.reset.timer.down = 0 ∧ State.reset.timer.qualifier = .idle ∧
  State.reset.timer.reference = .low ∧ State.reset.timer.waitCount = 0 ∧ State.reset.timer.holdover = 0 ∧
  fsyncOut State.reset = none ∧ State.reset.engine = { pointer := 0, outcome := none } ∧
  State.reset.events.records = [] ∧ attn State.reset = false ∧
  State.reset.stats.globals.counters = List.replicate 12 0#32 ∧ State.reset.stats.snapshot = none ∧
  State.reset.ctl.mode = .pass ∧ State.reset.ctl.pendingOp = .none ∧ State.reset.ctl.returnMode = .pass ∧
  State.reset.link.receiver = .idle ∧ State.reset.link.retained = none ∧ State.reset.link.mrdy = false ∧
  mdo State.reset = none

/-! ### Time -/

/-- R36, R37, R41, R45, R46, R50. A tick: the tick counter rises, the down-counter of a running slot falls, the wait
count rises in WAIT_SYNC up to 65535, a held level raises the qualifying count, a sync pulse ends, and FSYNC is
sampled. Nothing else changes. The model's choices are: that the events which are due and have not been commanded are
taken first, in the order of `settled`, and none at an instant with nothing left over (log entry 2), the level that
TICK brings with `line` and `sample` (log entry 5), and the divider as the count it was last loaded with (log entry
4). -/
def Obligations.TickAdvancesTheTimer : Prop :=
  (∀ (s₀ : State) (level : Level),
    let s := settled s₀
    let runs : Bool := s.timer.state = .waitSync || s.timer.state = .locked || s.timer.state = .holdover
    exec (.tick level) s₀ = .next
      { s with
        timer :=
          { s.timer with
            tick := s.timer.tick + 1
            divider := match s.settings.prescaler with | .by1 => 1 | .by2 => 2 | .by16 => 16 | .by128 => 128
            down := if s.timer.slot = none then s.timer.down else s.timer.down - 1
            waitCount := if s.timer.state = .waitSync ∧ s.timer.waitCount < 65535 then s.timer.waitCount + 1
              else s.timer.waitCount
            qualifier :=
              match s.timer.qualifier with
              | .qualifying c => .qualifying (if runs = true ∧ level ≠ s.timer.reference then c + 1 else c)
              | .idle => .idle
            pulse := false
            line := level
            sample := level } }) ∧
  (∀ s : State, nothingDue s = true → settled s = s)

/-- R15, R31, R43, R45, R94, R132. The FSYNC line is driven under SOURCE timing with the output ON and in no other
case, at the asserted level while a pulse lasts and else at the idle level. What a frame start does, in the order its
records are presented: the frame number, the sync pulse of a FREE timer, the SYNC_LOST or SYNC_REGAINED record if one
belongs to it, a pending COMMIT, the renewal of every credit, slot 0 of the active bank with its fresh record, and the
frames-started counter. -/
def Obligations.FrameStartDoesItsParts : Prop :=
  (∀ s : State,
    let asserted : Level := match s.settings.edge with | .rising => .high | .falling => .low
    let idle : Level := match s.settings.edge with | .rising => .low | .falling => .high
    (s.settings.timing = .source → s.settings.fsyncOut = true → s.timer.pulse = true → fsyncOut s = some asserted) ∧
    (s.settings.timing = .source → s.settings.fsyncOut = true → s.timer.pulse = false → fsyncOut s = some idle) ∧
    (s.settings.timing = .follow ∨ s.settings.fsyncOut = false → fsyncOut s = none)) ∧
  (∀ (s : State) (loss : Option (EventKind × Nat)),
    let s1 : State :=
      { s with
        timer :=
          { s.timer with
            frame := s.timer.frame + 1, frameTick := s.timer.tick
            pulse := if s.timer.state = .free then s.settings.fsyncOut else false } }
    let s2 := match loss with | some (kind, detail) => recordNow kind none none detail none s1 | none => s1
    let s3 := if s.ctl.pendingOp = .commit then
        recordNow .commitDone none none s.staged.count none
          { s2 with active := s.staged, ctl := { s.ctl with pendingOp := .none } }
      else s2
    let slot0 := s3.active.entries.get 0
    frameStart loss s =
      { s3 with
        streams := s.streams.map fun e =>
          { e with
            credit :=
              if e.state = .disabled then e.credit
              else if e.carry then min (e.credit + e.reload.toNat) (2 * e.reload.toNat)
              else e.reload.toNat }
        timer := { s3.timer with slot := some 0, down := slot0.length.toNat }
        engine :=
          { s.engine with
            outcome := some
              { slot := 0, owner := slot0.ownerStream, released := false
                seen := match slot0.ownerStream with | some k => decide (queueOf s k ≠ []) | none => false } }
        stats :=
          { s3.stats with
            globals := { s3.stats.globals with framesStarted := satAdd s3.stats.globals.framesStarted 1 } } })

/-- R41, R94 to R96, R143. A slot end before the last slot: the ending slot is classified for its owner as USED,
BLOCKED or IDLE, with OVER_BUDGET for a BLOCKED slot whose head is short of credit, subject to HELD_SEEN; then the
next slot begins with a fresh record. The owner of a slot is the stream that its entry names, none in an OPEN or QUIET
slot. No effect while no slot end is due, which is the model's choice (log entry 1). -/
def Obligations.SlotEndClassifiesAndGivesWay : Prop :=
  (∀ s : State, (s.engine.outcome = none → classifySlot s = s) ∧
    ∀ o : SlotOutcome, s.engine.outcome = some o →
      let s1 : State := { s with engine := { s.engine with outcome := none } }
      (o.owner = none → classifySlot s = s1) ∧
      ∀ k : StreamId, o.owner = some k →
        let g := s.stats.streams.get k
        let e := s.streams.get k
        let count (g' : StreamStats) : State := { s1 with stats := { s.stats with streams := s.stats.streams.set k g' } }
        (o.released = true → classifySlot s = count { g with slotsUsed := satAdd g.slotsUsed 1 }) ∧
        (o.released = false → o.seen = false → classifySlot s = count { g with slotsIdle := satAdd g.slotsIdle 1 }) ∧
        (o.released = false → o.seen = true →
          let blocked := count { g with slotsBlocked := satAdd g.slotsBlocked 1 }
          (∀ (d : Descriptor) (rest : List Descriptor), queueOf s k = d :: rest → e.credit < d.length →
            e.heldSeen = false →
            classifySlot s =
              { recordNow .overBudget (some k) (some (d.initiator, d.transaction)) e.credit (some o.slot) blocked with
                streams := s.streams.set k { e with heldSeen := true } }) ∧
          (queueOf s k = [] ∨ (∃ d rest, queueOf s k = d :: rest ∧ d.length ≤ e.credit) ∨ e.heldSeen = true →
            classifySlot s = blocked))) ∧
  (∀ (s : State) (k : SlotId) (h : k.val + 1 < 48),
    s.timer.state ≠ .stopped → s.timer.slot = some k → s.timer.down = 0 → k.val + 1 < s.active.count →
    let next : SlotId := ⟨k.val + 1, h⟩
    let entry := s.active.entries.get next
    let t := classifySlot s
    exec .slotEnd s = .next
      { t with
        timer := { s.timer with slot := some next, down := entry.length.toNat }
        engine :=
          { s.engine with
            outcome := some
              { slot := next, owner := entry.ownerStream, released := false
                seen := match entry.ownerStream with | some j => decide (queueOf s j ≠ []) | none => false } } }) ∧
  (∀ s : State, (s.timer.state = .stopped ∨ s.timer.slot = none ∨ 0 < s.timer.down) → exec .slotEnd s = .next s) ∧
  (∀ e : SlotEntry,
    (∀ k : StreamId, e.owner = .stream → e.number.toNat = k.val → e.ownerStream = some k) ∧
    (e.owner = .openAll ∨ e.owner = .quiet → e.ownerStream = none))

/-- R42, R51, R73. The end of the last slot: a frame start in FREE and in HOLDOVER, where the holdover frames rise up
to 65535; the entry into WAIT_SYNC in LOCKED. -/
def Obligations.LastSlotEndsByTimerState : Prop :=
  ∀ (s : State) (k : SlotId), s.timer.slot = some k → s.timer.down = 0 → s.active.count ≤ k.val + 1 →
    let t := classifySlot s
    (s.timer.state = .free → exec .slotEnd s = .next (reevaluate (frameStart none t))) ∧
    (s.timer.state = .holdover →
      exec .slotEnd s = .next
        (reevaluate (frameStart none
          { t with
            timer :=
              { s.timer with
                holdover := if s.timer.holdover < 65535 then s.timer.holdover + 1 else s.timer.holdover } }))) ∧
    (s.timer.state = .locked →
      exec .slotEnd s = .next { t with timer := { s.timer with state := .waitSync, slot := none, waitCount := 0 } })

/-- R46 to R49, R51, R145. A sync that qualifies: it ends a wait, regains lock from HOLDOVER, cuts the last slot when
LOCKED, and is an early sync before the last slot. In each the qualifier returns to IDLE with the new reference level.
The model's choices are: no effect while none is due (log entry 1), and a count at or past Q taken as one that has
reached it (log entry 21). -/
def Obligations.SyncQualificationActsByTimerState : Prop :=
  (∀ (s : State) (c : Nat), s.timer.qualifier = .qualifying c → s.settings.q.toNat ≤ c →
    let level : Level := match s.settings.edge with | .rising => .high | .falling => .low
    let timer : Timer := { s.timer with qualifier := .idle, reference := level }
    let s1 : State := { s with timer := timer }
    let g := s.stats.globals
    (s.timer.state = .waitSync →
      exec .syncQualification s = .next
        (reevaluate (frameStart none { s with timer := { timer with state := .locked, waitCount := 0, holdover := 0 } }))) ∧
    (s.timer.state = .holdover →
      let t := classifySlot s1
      exec .syncQualification s = .next
        (reevaluate (frameStart (some (.syncRegained, s.timer.holdover))
          { t with
            timer := { timer with state := .locked, holdover := 0 }
            stats :=
              { t.stats with
                globals := { t.stats.globals with syncRegains := satAdd t.stats.globals.syncRegains 1 } } }))) ∧
    (∀ k : SlotId, s.timer.state = .locked → s.timer.slot = some k → s.active.count ≤ k.val + 1 →
      exec .syncQualification s = .next (reevaluate (frameStart none (classifySlot s1)))) ∧
    (∀ k : SlotId, s.timer.state = .locked → s.timer.slot = some k → k.val + 1 < s.active.count →
      let s2 : State := { s1 with stats := { s.stats with globals := { g with earlySyncs := satAdd g.earlySyncs 1 } } }
      (s.events.earlySeen = true → exec .syncQualification s = .next s2) ∧
      (s.events.earlySeen = false →
        let s3 := recordNow .syncEarly none none (s.timer.tick - s.timer.frameTick).toNat (some k) s2
        exec .syncQualification s = .next { s3 with events := { s3.events with earlySeen := true } }))) ∧
  (∀ s : State,
    (s.timer.qualifier = .idle ∨ (∃ c, s.timer.qualifier = .qualifying c ∧ c < s.settings.q.toNat) ∨
        s.timer.state = .stopped ∨ s.timer.state = .free) →
      exec .syncQualification s = .next s)

/-- R50. The sync timeout's expiry: HOLDOVER with one holdover frame, the sync-losses counter, and a frame start that
brings SYNC_LOST with the timeout as its detail. The model's choices are: no effect while the wait has no expiry or
has not reached it (log entry 1), and a wait count at or past the timeout taken as one that has reached it (log entry
21). -/
def Obligations.SyncTimeoutExpiryEntersHoldover : Prop :=
  (∀ s : State, s.timer.state = .waitSync → s.settings.syncTimeout ≠ 0#16 →
    s.settings.syncTimeout.toNat ≤ s.timer.waitCount →
    let g := s.stats.globals
    exec .syncTimeoutExpiry s = .next (expireSync s) ∧
    expireSync s =
      reevaluate (frameStart (some (.syncLost, s.settings.syncTimeout.toNat))
        { s with
          timer := { s.timer with state := .holdover, waitCount := 0, holdover := 1 }
          stats := { s.stats with globals := { g with syncLosses := satAdd g.syncLosses 1 } } })) ∧
  (∀ s : State,
    (s.timer.state ≠ .waitSync ∨ s.settings.syncTimeout = 0#16 ∨ s.timer.waitCount < s.settings.syncTimeout.toNat) →
      exec .syncTimeoutExpiry s = .next s)

/-- R31, R43, log entry 7 (the model's choice of what the row does). COMMIT_COMPLETION
with a commit pending and an event due that starts a frame is that event, and after it no operation is pending and the
staged bank is active; without a pending commit it has no effect. -/
def Obligations.CommitCompletesAtAFrameStart : Prop :=
  (∀ s : State, s.ctl.pendingOp = .commit →
    let qualifies : Prop :=
      (s.timer.state = .waitSync ∨ s.timer.state = .locked ∨ s.timer.state = .holdover) ∧
        ∃ c : Nat, s.timer.qualifier = .qualifying c ∧ s.settings.q.toNat ≤ c
    (qualifies →
      (s.timer.state = .waitSync ∨ s.timer.state = .holdover ∨
        ∃ k : SlotId, s.timer.state = .locked ∧ s.timer.slot = some k ∧ s.active.count ≤ k.val + 1) →
      exec .commitCompletion s = exec .syncQualification s) ∧
    (¬ qualifies → ∀ k : SlotId, s.timer.state = .free ∨ s.timer.state = .holdover →
      s.timer.slot = some k → s.timer.down = 0 → s.active.count ≤ k.val + 1 →
      exec .commitCompletion s = exec .slotEnd s) ∧
    (¬ qualifies → s.timer.state = .waitSync → s.timer.slot = none → s.settings.syncTimeout ≠ 0#16 →
      s.settings.syncTimeout.toNat ≤ s.timer.waitCount →
      exec .commitCompletion s = exec .syncTimeoutExpiry s)) ∧
  (∀ s : State, ∃ t : State, exec .commitCompletion s = .next t ∧
    (s.ctl.pendingOp ≠ .commit → t = s) ∧
    (s.ctl.pendingOp = .commit →
      t = s ∨ (t.ctl.pendingOp = .none ∧ t.active = s.staged ∧ t.staged = s.staged ∧ t.timer.frame = s.timer.frame + 1)))

/-- R46, log entry 5 (the model's choice of the row's operand). FSYNC_EDGE: the change is judged when it is the level
of the tick's sample. The chosen edge starts qualifying with a count of 0, an opposite change moves the reference
level, a return to the reference level before Q is a glitch that is counted and nothing more. -/
def Obligations.FsyncChangeIsJudged : Prop :=
  ∀ (s : State) (level : Level),
    let chosen : Level := match s.settings.edge with | .rising => .high | .falling => .low
    let runs : Prop := s.timer.state = .waitSync ∨ s.timer.state = .locked ∨ s.timer.state = .holdover
    let timer : Timer := { s.timer with line := level }
    let g := s.stats.globals
    (level ≠ s.timer.sample ∨ ¬ runs → exec (.fsyncEdge level) s = .next { s with timer := timer }) ∧
    (level = s.timer.sample → runs → s.timer.qualifier = .idle → level = s.timer.reference →
      exec (.fsyncEdge level) s = .next { s with timer := timer }) ∧
    (level = s.timer.sample → runs → s.timer.qualifier = .idle → level ≠ s.timer.reference → level = chosen →
      exec (.fsyncEdge level) s = .next { s with timer := { timer with qualifier := .qualifying 0 } }) ∧
    (level = s.timer.sample → runs → s.timer.qualifier = .idle → level ≠ s.timer.reference → level ≠ chosen →
      exec (.fsyncEdge level) s = .next { s with timer := { timer with reference := level } }) ∧
    (∀ c : Nat, level = s.timer.sample → runs → s.timer.qualifier = .qualifying c → level ≠ s.timer.reference →
      exec (.fsyncEdge level) s = .next { s with timer := timer }) ∧
    (∀ c : Nat, level = s.timer.sample → runs → s.timer.qualifier = .qualifying c → level = s.timer.reference →
      exec (.fsyncEdge level) s = .next
        { s with
          timer := { timer with qualifier := .idle }
          stats := { s.stats with globals := { g with glitches := satAdd g.glitches 1 } } })

/-! ### Admission -/

/-- R61. A request of length 0 or 9 to 15, or whose first and last units lie in different pages of 128 units, is
malformed: outside a quiesce it is refused MALFORMED with no stream, whatever its kind, initiator and order group, and
a request of length 1 to 8 within one page is not. -/
def Obligations.MalformedRequestsAreRefused : Prop :=
  ∀ (s : State) (header : BitVec 64) (data : List DataUnit),
    let r := decodeUpRequest header data
    let a := r.unitAddr.toNat
    (malformed r = true ↔ r.length = 0 ∨ 9 ≤ r.length ∨ a / 128 ≠ (a + r.length - 1) / 128) ∧
    (s.port.offer = none → s.ctl.mode.admits = true → malformed r = true →
      let s1 : State :=
        { s with
          port :=
            { s.port with
              sent := s.port.sent ++
                [{ initiator := r.initiator, transaction := r.transaction, status := .refused .malformed, data := [] }] } }
      (s.events.portRefuseSeen = true → exec (.requestOffer header data) s = .next s1) ∧
      (s.events.portRefuseSeen = false →
        let s2 := recordNow .refused none (some (r.initiator, r.transaction)) 1 s.timer.slot s1
        exec (.requestOffer header data) s = .next { s2 with events := { s2.events with portRefuseSeen := true } }))

/-- R59, R60, R62, R151. The gates before admission: an offer meets an EMPTY place only, and has no effect on an
OCCUPIED one (the model's reading, log entry 16); QUIESCING and QUIESCED stall whatever is offered; a well-formed
request whose tag is held queued or IN_FLIGHT is refused DUPLICATE with no stream, and an ORPHANED entry's tag is not
compared; outside PASS one that classifies to no stream is refused UNCLASSIFIED. Either refusal is answered, and
recorded with its reason's code subject to PORT_REFUSE_SEEN. -/
def Obligations.OffersPassTheGates : Prop :=
  ∀ (s : State) (header : BitVec 64) (data : List DataUnit),
    let r := decodeUpRequest header data
    let held : Prop :=
      (∃ k : StreamId, ∃ d ∈ queueOf s k, d.initiator = r.initiator ∧ d.transaction = r.transaction) ∨
      (∃ d ∈ s.store.pass, d.initiator = r.initiator ∧ d.transaction = r.transaction) ∨
      (∃ (t : Tag) (h : Held), s.table.get t = .inFlight h ∧ h.initiator = r.initiator ∧ h.transaction = r.transaction)
    let refused (reason : Reason) (code : Nat) : Prop :=
      let s1 : State :=
        { s with
          port :=
            { s.port with
              sent := s.port.sent ++
                [{ initiator := r.initiator, transaction := r.transaction, status := .refused reason, data := [] }] } }
      (s.events.portRefuseSeen = true → exec (.requestOffer header data) s = .next s1) ∧
      (s.events.portRefuseSeen = false →
        let s2 := recordNow .refused none (some (r.initiator, r.transaction)) code s.timer.slot s1
        exec (.requestOffer header data) s = .next { s2 with events := { s2.events with portRefuseSeen := true } })
    (s.port.offer ≠ none → exec (.requestOffer header data) s = .next s) ∧
    (s.port.offer = none → s.ctl.mode = .quiescing ∨ s.ctl.mode = .quiesced →
      exec (.requestOffer header data) s = .next { s with port := { s.port with offer := some r } }) ∧
    (duplicate s r = true ↔ held) ∧
    (s.port.offer = none → s.ctl.mode.admits = true → malformed r = false →
      (held → refused .duplicate 2) ∧
      (¬ held → s.ctl.mode ≠ .pass → classify s r = none → refused .unclassified 3))

/-- R63. In PASS a well-formed request that is no duplicate is accepted into the pass queue when a descriptor is free
and its write data fits, and stalls otherwise. The acceptance stamps the sequence and the tick and changes nothing
else. -/
def Obligations.PassAdmitsWhatFits : Prop :=
  ∀ (s : State) (header : BitVec 64) (data : List DataUnit),
    let r := decodeUpRequest header data
    let units : Nat := ((((List.finRange 24).flatMap fun k => queueOf s k) ++ s.store.pass).map fun d =>
      if d.kind = .write then d.length else 0).sum
    let fits : Prop := 1 ≤ freeDescriptors s ∧ (r.kind = .write → r.length ≤ freeUnits s)
    freeDescriptors s = 128 - heldCount s ∧ freeUnits s = 384 - units ∧
    (s.ctl.mode = .pass → s.port.offer = none → malformed r = false → duplicate s r = false →
    (fits →
      exec (.requestOffer header data) s = .next
        { s with
          store :=
            { s.store with
              nextSeq := s.store.nextSeq + 1
              pass := s.store.pass ++
                [{ initiator := r.initiator, transaction := r.transaction, kind := r.kind, unitAddr := r.unitAddr,
                   length := r.length, group := r.group, data := r.data, seq := s.store.nextSeq,
                   admTick := s.timer.tick, late := false }] } }) ∧
    (¬ fits → exec (.requestOffer header data) s = .next { s with port := { s.port with offer := some r } }))

/-- R64, R65. The lowest-numbered stream that is not DISABLED and matches on initiator, page window and kind takes the
request; with none, the default stream setting says which, if any. -/
def Obligations.ClassificationTakesTheFirstMatch : Prop :=
  ∀ (s : State) (r : UpRequest),
    let takes (k : StreamId) : Prop :=
      let e := s.streams.get k
      e.state ≠ .disabled ∧ e.initiatorSet.getLsbD r.initiator.toNat = true ∧
      e.pageBase.toNat ≤ r.unitAddr.toNat / 128 ∧ r.unitAddr.toNat / 128 ≤ e.pageLimit.toNat ∧
      (e.kinds = .both ∨ (e.kinds = .read ∧ r.kind = .read) ∨ (e.kinds = .write ∧ r.kind = .write))
    (∀ k : StreamId, takes k → (∀ j < k, ¬ takes j) → classify s r = some k) ∧
    ((∀ k : StreamId, ¬ takes k) → classify s r = s.settings.defaultStream)

/-- R66 to R72, R94, R141. A request whose stream is found, in the order of the steps: CLOSED, OVER_BUDGET, then with
room in the queue, the descriptors and the pool its acceptance, and without it FULL or the stall by the full policy. A
refusal is answered, counted for the stream and recorded by its latch. -/
def Obligations.StreamAdmissionFollowsTheSteps : Prop :=
  ∀ (s : State) (header : BitVec 64) (data : List DataUnit) (k : StreamId),
    let r := decodeUpRequest header data
    let e := s.streams.get k
    let q := queueOf s k
    let g := s.stats.streams.get k
    let shortfall : Nat := ((List.finRange 24).map fun j => (s.streams.get j).reserve.toNat - (queueOf s j).length).sum
    let overspent : Prop := e.overBudget = .refuse ∧ e.credit < r.length + (q.map (·.length)).sum
    let room : Prop :=
      q.length < e.queueLimit.toNat ∧ (r.kind = .write → r.length ≤ freeUnits s) ∧
        (if q.length < e.reserve.toNat then 1 ≤ freeDescriptors s else shortfall + 1 ≤ freeDescriptors s)
    let answered (reason : Reason) (code : Nat) : State :=
      let s1 : State :=
        { s with
          port :=
            { s.port with
              sent := s.port.sent ++
                [{ initiator := r.initiator, transaction := r.transaction, status := .refused reason, data := [] }] }
          stats :=
            { s.stats with
              streams := s.stats.streams.set k { g with refusedRequests := satAdd g.refusedRequests 1 } } }
      if e.refusedSeen then s1
      else
        { recordNow .refused (some k) (some (r.initiator, r.transaction)) code s.timer.slot s1 with
          streams := s.streams.set k { e with refusedSeen := true } }
    let count := q.length + 1
    let accepted : State :=
      { s with
        store :=
          { s.store with
            nextSeq := s.store.nextSeq + 1
            queues := s.store.queues.set k
              (q ++ [{ initiator := r.initiator, transaction := r.transaction, kind := r.kind, unitAddr := r.unitAddr,
                       length := r.length, group := r.group, data := r.data, seq := s.store.nextSeq,
                       admTick := s.timer.tick, late := false }]) }
        stats :=
          { s.stats with
            streams := s.stats.streams.set k
              { g with
                admittedRequests := satAdd g.admittedRequests 1
                admittedUnits := satAdd g.admittedUnits r.length
                highWater := if g.highWater.toNat < count then BitVec.ofNat 32 count else g.highWater } }
        engine :=
          { s.engine with
            outcome := s.engine.outcome.map fun o => if o.owner = some k then { o with seen := true } else o } }
    s.ctl.mode = .engaging ∨ s.ctl.mode = .regulate → s.port.offer = none → malformed r = false →
    duplicate s r = false → classify s r = some k →
    (e.state = .disabled ∨ e.state = .draining →
      exec (.requestOffer header data) s = .next (answered .closed 4)) ∧
    (e.state = .active ∨ e.state = .paused →
      (overspent → exec (.requestOffer header data) s = .next (answered .overBudget 6)) ∧
      (¬ overspent → room → exec (.requestOffer header data) s = .next accepted) ∧
      (¬ overspent → ¬ room → e.fullPolicy = .refuse →
        exec (.requestOffer header data) s = .next (answered .full 5)) ∧
      (¬ overspent → ¬ room → e.fullPolicy = .stall →
        exec (.requestOffer header data) s = .next { s with port := { s.port with offer := some r } }))

/-- R59, R73, R152. The evaluation of a stalled request is the evaluation of an offer of it to an EMPTY place, from
step 1 and with the sequence and tick of this instant; with no stalled request nothing happens. -/
def Obligations.StalledRequestIsEvaluatedAsOffered : Prop :=
  (∀ (s : State) (header : BitVec 64) (data : List DataUnit), s.port.offer = some (decodeUpRequest header data) →
    exec (.requestOffer header data) { s with port := { s.port with offer := none } } = .next (reevaluate s)) ∧
  (∀ s : State, s.port.offer = none → reevaluate s = s)

/-- R75, R76. DEADLINE_CROSSING: the oldest request that is due crosses: it is marked, the late-requests counter
rises, and LATE is recorded with the deadline as its detail, subject to LATE_SEEN. The model's choices are: no effect
while none is due (log entry 1), and an age at or past the deadline taken as one that has reached it (log entry 21). -/
def Obligations.OldestDueRequestCrosses : Prop :=
  ∀ s : State,
    let due (k : StreamId) (d : Descriptor) : Prop :=
      (s.streams.get k).deadline ≠ 0#16 ∧ d.late = false ∧
        (s.streams.get k).deadline.toNat ≤ (s.timer.tick - d.admTick).toNat
    ((∀ (k : StreamId), ∀ d ∈ queueOf s k, ¬ due k d) → exec .deadlineCrossing s = .next s) ∧
    (∀ (k : StreamId) (front back : List Descriptor) (d : Descriptor),
      queueOf s k = front ++ d :: back → due k d → (∀ f ∈ front, ¬ due k f) →
      (∀ j : StreamId, j ≠ k → ∀ f ∈ queueOf s j, due j f →
        (s.store.nextSeq - f.seq).toNat < (s.store.nextSeq - d.seq).toNat) →
      let e := s.streams.get k
      let g := s.stats.streams.get k
      let s1 : State :=
        { s with
          store := { s.store with queues := s.store.queues.set k (front ++ { d with late := true } :: back) }
          stats := { s.stats with streams := s.stats.streams.set k { g with lateRequests := satAdd g.lateRequests 1 } } }
      exec .deadlineCrossing s = .next (cross k d s) ∧
      (e.lateSeen = true → cross k d s = s1) ∧
      (e.lateSeen = false →
        cross k d s =
          { recordNow .late (some k) (some (d.initiator, d.transaction)) e.deadline.toNat s.timer.slot s1 with
            streams := s.streams.set k { e with lateSeen := true } }))

/-! ### Releases -/

/-- R78 to R80, R91, R92, R117, R122, R155. DP_READY sets the ready condition. With it, a FREE entry and a pass queue
that may release, RELEASE sends the pass queue's head: it takes the lowest FREE tag, leaves unchanged, the condition
becomes NOT_READY, and pass releases rise; an emptied queue may complete an engagement or a quiesce, and a stalled
request is evaluated again. -/
def Obligations.PassReleaseSendsTheHead : Prop :=
  (∀ s : State, exec .dpReady s = .next { s with dp := { s.dp with ready := true } }) ∧
  (∀ (s : State) (d : Descriptor) (rest : List Descriptor) (t : Tag),
    s.dp.ready = true → lowestFree s t → releasesPass s.ctl → s.store.pass = d :: rest →
    exec .release s = .next
      (reevaluate (quiesceIfDue (engageIfDue
        { s with
          store := { s.store with pass := rest }
          table := s.table.set t
            (.inFlight
              { initiator := d.initiator, transaction := d.transaction, stream := .pass, kind := d.kind,
                length := d.length, admTick := d.admTick, relTick := s.timer.tick })
          dp :=
            { ready := false
              sent := s.dp.sent ++
                [{ tag := t, kind := d.kind, unitAddr := d.unitAddr, length := d.length, data := d.data }] }
          stats :=
            { s.stats with
              globals := { s.stats.globals with passReleases := satAdd s.stats.globals.passReleases 1 } }
          ctl := { s.ctl with engaged := if s.ctl.mode = .engaging then s.ctl.engaged + 1 else s.ctl.engaged } }))))

/-- R85 to R92, R94, R142. RELEASE of a stream's head: the owner's in its slot, else the first open-eligible head from
the pointer upward where the window is open. The credit is charged, or left where it is short (borrowed); the request
leaves unchanged under the lowest FREE tag; the pointer moves past a round-robin winner only; the running slot's
record notes a release of its owner. -/
def Obligations.StreamReleaseSendsTheWinner : Prop :=
  ∀ (s : State) (k : StreamId) (d : Descriptor) (rest : List Descriptor) (t : Tag),
    let e := s.streams.get k
    let g := s.stats.streams.get k
    let charged : Prop := d.length ≤ e.credit
    let robinWins : Prop :=
      openEligible s k = true ∧
        ∀ j : Nat, j < (k - s.engine.pointer).val → openEligible s (s.engine.pointer + Fin.ofNat 24 j) = false
    let ownerWins : Prop :=
      ∃ i entry, window s = .slot i entry ∧ entry.owner = .stream ∧ entry.number.toNat = k.val ∧ ownerEligible s k = true
    let openWindow : Prop :=
      window s = .gap .openAll ∨ (∃ i entry, window s = .slot i entry ∧ entry.owner = .openAll) ∨
      (∃ i entry, window s = .slot i entry ∧ entry.owner = .stream ∧ entry.lend = true ∧
        ∀ j : StreamId, entry.number.toNat = j.val → ownerEligible s j = false)
    let sent (pointer : StreamId) : State :=
      { s with
        store := { s.store with queues := s.store.queues.set k rest }
        table := s.table.set t
          (.inFlight
            { initiator := d.initiator, transaction := d.transaction, stream := .stream k, kind := d.kind,
              length := d.length, admTick := d.admTick, relTick := s.timer.tick })
        dp :=
          { ready := false
            sent := s.dp.sent ++
              [{ tag := t, kind := d.kind, unitAddr := d.unitAddr, length := d.length, data := d.data }] }
        streams := s.streams.set k { e with credit := if charged then e.credit - d.length else e.credit }
        stats :=
          { s.stats with
            streams := s.stats.streams.set k
              (if charged then { g with chargedUnits := satAdd g.chargedUnits d.length }
               else { g with borrowedUnits := satAdd g.borrowedUnits d.length }) }
        engine :=
          { pointer := pointer
            outcome := s.engine.outcome.map fun o => if o.owner = some k then { o with released := true } else o } }
    s.dp.ready = true → lowestFree s t → releasesByWindow s.ctl → queueOf s k = d :: rest →
    (ownerWins → exec .release s = .next
      (reevaluate (quiesceIfDue (closeIfDrained k (sent s.engine.pointer))))) ∧
    (openWindow → robinWins → exec .release s = .next
      (reevaluate (quiesceIfDue (closeIfDrained k (sent (k + 1))))))

/-- R53, R78, R79, R81 to R83, R85, R98. The window: none with a STOPPED timer, the gap policy in WAIT_SYNC, and in
FREE, LOCKED and HOLDOVER the current slot with its entry of the active bank. Eligibility in both senses, an
order-waiting head being eligible in neither; and when nothing is released: without READY, without a FREE entry, in
QUIESCED, in a QUIET or absent window, in an owned slot that is not lent while its owner's head is not eligible, in an
open window without an open-eligible head, and from an empty pass queue. That RELEASE then has no effect is the
model's choice (log entry 1). -/
def Obligations.EligibilityAndWhenNothingIsReleased : Prop :=
  (∀ s : State,
    (s.timer.state = .stopped → window s = .none) ∧
    (s.timer.state = .waitSync → window s = .gap s.settings.gap) ∧
    (∀ k : SlotId, s.timer.state = .free ∨ s.timer.state = .locked ∨ s.timer.state = .holdover →
      s.timer.slot = some k → window s = .slot k (s.active.entries.get k))) ∧
  (∀ (s : State) (k : StreamId),
    inFlightCount s k = (List.finRange 48).countP fun t =>
      match s.table.get t with | .inFlight h => decide (h.stream = .stream k) | _ => false) ∧
  (∀ (s : State) (k : StreamId),
    let e := s.streams.get k
    let head (p : Descriptor → Prop) : Prop := ∃ d rest, queueOf s k = d :: rest ∧ p d
    let waits (d : Descriptor) : Prop :=
      d.group ≠ 0#2 ∧ ∃ o, ((∃ j : StreamId, o ∈ queueOf s j) ∨ o ∈ s.store.pass) ∧ o.initiator = d.initiator ∧
        o.group = d.group ∧ (s.store.nextSeq - d.seq).toNat < (s.store.nextSeq - o.seq).toNat
    let serves : Prop := (e.state = .active ∨ e.state = .draining) ∧ inFlightCount s k < e.maxInFlight.toNat
    (ownerEligible s k = true ↔ serves ∧ head fun d => ¬ waits d ∧ d.length ≤ e.credit) ∧
    (openEligible s k = true ↔
      serves ∧ e.openShare = true ∧ head fun d => ¬ waits d ∧ (d.length ≤ e.credit ∨ e.overBudget = .lend))) ∧
  (∀ s : State,
    let quiet : Prop :=
      window s = .none ∨ window s = .gap .quiet ∨ (∃ i entry, window s = .slot i entry ∧ entry.owner = .quiet) ∨
      (∃ i entry, window s = .slot i entry ∧ entry.owner = .stream ∧ entry.lend = false ∧
        ∀ k : StreamId, entry.number.toNat = k.val → ownerEligible s k = false) ∨
      ((∀ k : StreamId, openEligible s k = false) ∧
        (window s = .gap .openAll ∨ (∃ i entry, window s = .slot i entry ∧ entry.owner = .openAll) ∨
          ∃ i entry, window s = .slot i entry ∧ entry.owner = .stream ∧ entry.lend = true ∧
            ∀ k : StreamId, entry.number.toNat = k.val → ownerEligible s k = false))
    (s.dp.ready = false ∨ (∀ t : Tag, s.table.get t ≠ .free) ∨ s.ctl.mode = .quiesced ∨
        (releasesByWindow s.ctl ∧ quiet) ∨ (releasesPass s.ctl ∧ s.store.pass = [])) →
      exec .release s = .next s)

/-! ### Responses -/

/-- R101 to R104, R109, R110, R144, R146. RESPONSE_ARRIVAL by the entry its tag names: an IN_FLIGHT entry's response
is forwarded, with the read data of an OK answer to a READ, MEMORY_ERROR recorded for an ERROR, the latency for a
stream's entry, the entry FREE, then a DRAINING stream's close and a quiesce's completion; an ORPHANED entry's is
discarded as late and frees the entry; any other is discarded as unexpected and no entry changes. -/
def Obligations.ResponseArrivalActsByTheEntry : Prop :=
  ∀ (s : State) (header : BitVec 32) (data : List DataUnit),
    let r := decodeDownResponse header data
    let g := s.stats.globals
    (∀ (t : Tag) (h : Held), r.tag.toNat = t.val → s.table.get t = .inFlight h →
      let stream : Option StreamId := match h.stream with | .stream k => some k | _ => none
      let latency : Nat := (s.timer.tick - h.admTick).toNat
      let reported (t : State) : State :=
        match stream with
        | none => t
        | some k =>
          let c := t.stats.streams.get k
          let c1 := if r.ok then c else { c with memoryErrors := satAdd c.memoryErrors 1 }
          { t with
            stats :=
              { t.stats with
                streams := t.stats.streams.set k
                  { c1 with
                    completed := satAdd c.completed 1
                    latencyMin := if latency < c.latencyMin.toNat then BitVec.ofNat 32 latency else c.latencyMin
                    latencyMax := if c.latencyMax.toNat < latency then BitVec.ofNat 32 latency else c.latencyMax
                    latencySum := satAdd c.latencySum latency } } }
      let s1 : State :=
        { s with
          port :=
            { s.port with
              sent := s.port.sent ++
                [{ initiator := h.initiator, transaction := h.transaction
                   status := if r.ok then .ok else .memoryError
                   data := if r.ok = true ∧ h.kind = .read then r.data else [] }] }
          table := s.table.set t .free }
      let s2 := if r.ok then s1
        else recordNow .memoryError stream (some (h.initiator, h.transaction)) t.val s.timer.slot s1
      exec (.responseArrival header data) s = .next (settleCounts stream (reported s2))) ∧
    (∀ (t : Tag) (h : Held), r.tag.toNat = t.val → s.table.get t = .orphaned h →
      exec (.responseArrival header data) s = .next
        (recordNow .lateResponse (match h.stream with | .stream k => some k | _ => none)
          (some (h.initiator, h.transaction)) t.val s.timer.slot
          { s with
            table := s.table.set t .free
            stats := { s.stats with globals := { g with lateResponses := satAdd g.lateResponses 1 } } })) ∧
    (48 ≤ r.tag.toNat ∨ (∃ t : Tag, r.tag.toNat = t.val ∧ s.table.get t = .free) →
      exec (.responseArrival header data) s = .next
        (recordNow .unexpectedResponse none none r.tag.toNat s.timer.slot
          { s with stats := { s.stats with globals := { g with unexpected := satAdd g.unexpected 1 } } }))

/-- R105, R106, R146. RESPONSE_TIMEOUT_EXPIRY of an IN_FLIGHT entry whose age is at or past a non-zero timeout:
TIMEOUT to the initiator, the entry ORPHANED with all its fields, both timeouts counters, RESP_TIMEOUT, then the close
and the quiesce completion the fall of the count may bring. The model's choices are: no effect on any other entry (log
entry 1), and an age at or past the timeout taken as one that has reached it (log entry 21). -/
def Obligations.ResponseTimeoutOrphansTheEntry : Prop :=
  (∀ (s : State) (t : Tag) (h : Held), s.table.get t = .inFlight h → s.settings.responseTimeout ≠ 0#16 →
    s.settings.responseTimeout.toNat ≤ (s.timer.tick - h.relTick).toNat →
    let stream : Option StreamId := match h.stream with | .stream k => some k | _ => none
    let g := s.stats.globals
    let groups :=
      match stream with
      | none => s.stats.streams
      | some k =>
        s.stats.streams.set k { s.stats.streams.get k with timeouts := satAdd (s.stats.streams.get k).timeouts 1 }
    exec (.responseTimeoutExpiry t) s = .next
      (settleCounts stream
        (recordNow .respTimeout stream (some (h.initiator, h.transaction)) t.val s.timer.slot
          { s with
            port :=
              { s.port with
                sent := s.port.sent ++
                  [{ initiator := h.initiator, transaction := h.transaction, status := .timeout, data := [] }] }
            table := s.table.set t (.orphaned h)
            stats := { s.stats with streams := groups, globals := { g with timeouts := satAdd g.timeouts 1 } } }))) ∧
  (∀ (s : State) (t : Tag),
    (s.table.get t = .free ∨ (∃ h, s.table.get t = .orphaned h) ∨
      (∃ h, s.table.get t = .inFlight h ∧
        (s.settings.responseTimeout = 0#16 ∨
          (s.timer.tick - h.relTick).toNat < s.settings.responseTimeout.toNat))) →
      exec (.responseTimeoutExpiry t) s = .next s)

/-! ### Completions and events -/

/-- R12, R73, R117, R122, R129, R170. The three completions, where their conditions hold and not otherwise (the
model's choice, log entries 1 and 6): an engagement whose pass queue is empty, a quiesce with its queues empty and
nothing in flight, a DRAINING stream that holds nothing. Each is followed by the evaluation of a stalled request. -/
def Obligations.CompletionsFollowTheirConditions : Prop :=
  (∀ s : State, s.ctl.mode = .engaging → s.store.pass = [] →
    let ctl : Control := { s.ctl with mode := .regulate, pendingOp := .none }
    engageIfDue s = completeEngagement s ∧
    exec .engagementCompletion s = .next (reevaluate (completeEngagement s)) ∧
    (s.settings.timing = .source →
      completeEngagement s =
        recordNow .engaged none none s.ctl.engaged none
          (frameStart none { s with ctl := ctl, timer := { s.timer with state := .free } })) ∧
    (s.settings.timing = .follow →
      completeEngagement s =
        recordNow .engaged none none s.ctl.engaged none
          { s with
            ctl := ctl
            timer :=
              { s.timer with
                state := .waitSync, slot := none, down := 0, waitCount := 0, qualifier := .idle,
                reference := s.timer.line, sample := s.timer.line } })) ∧
  (∀ s : State, s.ctl.mode ≠ .engaging ∨ s.store.pass ≠ [] →
    engageIfDue s = s ∧ exec .engagementCompletion s = .next s) ∧
  (∀ s : State,
    let holds : Prop :=
      s.ctl.mode = .quiescing ∧ (∀ t : Tag, (s.table.get t).isInFlight = false) ∧
      (s.ctl.returnMode = .pass → s.store.pass = []) ∧
      (s.ctl.returnMode = .regulate → ∀ k : StreamId, queueOf s k = [] ∨ (s.streams.get k).state = .paused)
    let done := recordNow .quiesced none none (if s.ctl.returnMode = .pass then 0 else 2) none
      { s with ctl := { s.ctl with mode := .quiesced, pendingOp := .none } }
    (holds → quiesceIfDue s = done ∧ exec .quiesceCompletion s = .next (reevaluate done)) ∧
    (¬ holds → quiesceIfDue s = s ∧ exec .quiesceCompletion s = .next s)) ∧
  (∀ (s : State) (k : StreamId),
    let e := s.streams.get k
    let holds : Prop :=
      e.state = .draining ∧ queueOf s k = [] ∧ ∀ (t : Tag) (h : Held), s.table.get t = .inFlight h → h.stream ≠ .stream k
    let closed := recordNow .streamClosed (some k) none 1 s.timer.slot
      { s with streams := s.streams.set k { e with state := .disabled, credit := 0 } }
    (holds → closeIfDrained k s = closed ∧
      exec (.streamAutomaticClose k) s = .next (reevaluate (quiesceIfDue closed))) ∧
    (¬ holds → closeIfDrained k s = s ∧ exec (.streamAutomaticClose k) s = .next s ∧
      (quiesceIfDue s = s → settleCounts (some k) s = s) ∧
      (quiesceIfDue s ≠ s → settleCounts (some k) s = reevaluate (quiesceIfDue s))) ∧
    (holds → settleCounts (some k) s = reevaluate (quiesceIfDue closed))) ∧
  (∀ s : State, (quiesceIfDue s = s → settleCounts none s = s) ∧
    (quiesceIfDue s ≠ s → settleCounts none s = reevaluate (quiesceIfDue s)))

/-- R128, R130, R131, R137. A record carries the frame number and tick of its instant. With up to 30 ordinary records
and no OVERFLOW record it is appended; with 31 it is lost and an OVERFLOW record of count 1 takes its place; with an
OVERFLOW record it is lost and that record's count rises up to 65535. A lost record raises events lost, and nothing
else. -/
def Obligations.PresentedRecordIsStoredOrLost : Prop :=
  ∀ (s : State) (kind : EventKind) (stream : Option StreamId) (request : Option (BitVec 5 × Byte)) (detail : Nat)
      (slot : Option SlotId), EventQueueLaw s →
    let rs := s.events.records
    let r : EventRecord :=
      { kind := kind, stream := stream, request := request, detail := detail, frame := s.timer.frame, slot := slot,
        tick := s.timer.tick }
    let put (records : List EventRecord) : State := { s with events := { s.events with records := records } }
    let lost (t : State) : State :=
      { t with
        stats := { t.stats with globals := { t.stats.globals with eventsLost := satAdd t.stats.globals.eventsLost 1 } } }
    ((∀ x ∈ rs, x.kind ≠ .overflow) → rs.length ≤ 30 →
      recordNow kind stream request detail slot s = put (rs ++ [r])) ∧
    ((∀ x ∈ rs, x.kind ≠ .overflow) → rs.length = 31 →
      recordNow kind stream request detail slot s =
        lost (put (rs ++
          [{ kind := .overflow, stream := none, request := none, detail := 1, frame := s.timer.frame, slot := slot,
             tick := s.timer.tick }]))) ∧
    (∀ (front : List EventRecord) (o : EventRecord), rs = front ++ [o] → o.kind = .overflow →
      recordNow kind stream request detail slot s =
        lost (put (front ++ [{ o with detail := if o.detail < 65535 then o.detail + 1 else o.detail }]))) ∧
    (attn s = true ↔ ∃ x ∈ rs, s.settings.mask.getLsbD
      (match x.kind with
        | .refused | .late | .overBudget => 0
        | .memoryError | .respTimeout | .lateResponse | .unexpectedResponse => 1
        | .syncEarly | .syncLost | .syncRegained => 2
        | .overflow => 4
        | _ => 3) = true)

/-! ### Invariants -/

/-- The state laws of Sys2Proof/Safety.lean hold right after power-on reset. -/
def Obligations.StateLawsHoldAtReset : Prop :=
  (EventQueueLaw State.reset ∧ StoreLaw State.reset ∧ ReserveLaw State.reset ∧ CreditLaw State.reset) ∧
  (DisabledLaw State.reset ∧ ScheduleLaw State.reset ∧ ModeLaw State.reset ∧ TimerLaw State.reset) ∧
  (TimingLaw State.reset ∧ TagLaw State.reset ∧ QueueLaw State.reset ∧ LengthLaw State.reset) ∧
  LatencyLaw State.reset ∧ LinkLaw State.reset

/-- R130, R131, R144, R159, R161, R163. Every step keeps the Event Queue at no more than 32 records, 31 of them
ordinary, with an OVERFLOW record only as the youngest; the latency values of a group without completed responses at
their reset values; and the receiver, the response buffer and MRDY in agreement. -/
def Obligations.EventLatencyAndLinkLawsAreKept : Prop :=
  KeptByStep EventQueueLaw ∧ KeptByStep LatencyLaw ∧ KeptByStep LinkLaw

/-- R5, R57, R68, R69. Every step keeps the 128 descriptors, the 384 units, the queue limits and the reserves. -/
def Obligations.StoreLawsAreKept : Prop := KeptByStep fun s => StoreLaw s ∧ ReserveLaw s

/-- R9, R12, R14, R15. Every step keeps each credit at or below its cap, a DISABLED stream without credit, and a
DISABLED stream without requests, queued or in flight. -/
def Obligations.StreamLawsAreKept : Prop := KeptByStep CreditLaw ∧ KeptByStep DisabledLaw

/-- 2.1, 7.1, R23, R38 to R51, R53, R114, R127. Every step keeps the mode, the pending operation, the timer and the
active bank in agreement, and the active bank valid. -/
def Obligations.ModeAndTimerLawsAreKept : Prop :=
  KeptByStep fun s => ModeLaw s ∧ ScheduleLaw s ∧ TimerLaw s ∧ TimingLaw s

/-- R61, R62, R79, R98. Every step keeps the held tags distinct, the stream queues empty in PASS and the pass queue
empty in REGULATE, and every held request 1 to 8 units long. -/
def Obligations.RequestLawsAreKept : Prop := KeptByStep TagLaw ∧ KeptByStep QueueLaw ∧ KeptByStep LengthLaw

/-- R93, R151, R153. No request is lost or answered twice: but for a power-on reset, every step keeps the collection
of the upstream tags held, offered or already answered, to which an offer that is taken adds its own. Held are the
requests queued and IN_FLIGHT (R62). -/
def Obligations.RequestsAreConserved : Prop :=
  (∀ (s t : State) (c : Instr), exec c s = .next t → c ≠ .powerOnReset →
    (∀ header data, c = .requestOffer header data → s.port.offer ≠ none) → (tagsSeen t).Perm (tagsSeen s)) ∧
  (∀ (s t : State) (header : BitVec 64) (data : List DataUnit), s.port.offer = none →
    exec (.requestOffer header data) s = .next t →
    (tagsSeen t).Perm
      (((decodeUpRequest header data).initiator, (decodeUpRequest header data).transaction) :: tagsSeen s)) ∧
  (∀ s : State, heldTags s =
    ((((List.finRange 24).flatMap fun k => queueOf s k) ++ s.store.pass).map fun d => (d.initiator, d.transaction))
      ++ (List.finRange 48).filterMap fun t =>
        match s.table.get t with | .inFlight h => some (h.initiator, h.transaction) | _ => none)
end

