-- ==== Sys2Proof/Laws/State.lean ====
section
/-! SUPPORT. One lemma for each field under each update of State. -/
namespace Sys2Proof.Machine

@[simp] theorem State.withStreams_streams (s : State) (x : Table numStreams StreamEntry) : (s.withStreams x).streams = x := rfl
@[simp] theorem State.withStreams_store (s : State) (x : Table numStreams StreamEntry) : (s.withStreams x).store = s.store := rfl
@[simp] theorem State.withStreams_port (s : State) (x : Table numStreams StreamEntry) : (s.withStreams x).port = s.port := rfl
@[simp] theorem State.withStreams_dp (s : State) (x : Table numStreams StreamEntry) : (s.withStreams x).dp = s.dp := rfl
@[simp] theorem State.withStreams_active (s : State) (x : Table numStreams StreamEntry) : (s.withStreams x).active = s.active := rfl
@[simp] theorem State.withStreams_staged (s : State) (x : Table numStreams StreamEntry) : (s.withStreams x).staged = s.staged := rfl
@[simp] theorem State.withStreams_settings (s : State) (x : Table numStreams StreamEntry) : (s.withStreams x).settings = s.settings := rfl
@[simp] theorem State.withStreams_timer (s : State) (x : Table numStreams StreamEntry) : (s.withStreams x).timer = s.timer := rfl
@[simp] theorem State.withStreams_engine (s : State) (x : Table numStreams StreamEntry) : (s.withStreams x).engine = s.engine := rfl
@[simp] theorem State.withStreams_table (s : State) (x : Table numStreams StreamEntry) : (s.withStreams x).table = s.table := rfl
@[simp] theorem State.withStreams_events (s : State) (x : Table numStreams StreamEntry) : (s.withStreams x).events = s.events := rfl
@[simp] theorem State.withStreams_stats (s : State) (x : Table numStreams StreamEntry) : (s.withStreams x).stats = s.stats := rfl
@[simp] theorem State.withStreams_ctl (s : State) (x : Table numStreams StreamEntry) : (s.withStreams x).ctl = s.ctl := rfl
@[simp] theorem State.withStreams_link (s : State) (x : Table numStreams StreamEntry) : (s.withStreams x).link = s.link := rfl
@[simp] theorem State.withStreams_pending (s : State) (x : Table numStreams StreamEntry) : (s.withStreams x).pending = s.pending := rfl
@[simp] theorem State.withStreams_withStreams (s : State) (x y : Table numStreams StreamEntry) : (s.withStreams x).withStreams y = s.withStreams y := rfl
@[simp] theorem State.withStreams_self (s : State) : s.withStreams s.streams = s := rfl
@[simp] theorem State.withStore_streams (s : State) (x : Store) : (s.withStore x).streams = s.streams := rfl
@[simp] theorem State.withStore_store (s : State) (x : Store) : (s.withStore x).store = x := rfl
@[simp] theorem State.withStore_port (s : State) (x : Store) : (s.withStore x).port = s.port := rfl
@[simp] theorem State.withStore_dp (s : State) (x : Store) : (s.withStore x).dp = s.dp := rfl
@[simp] theorem State.withStore_active (s : State) (x : Store) : (s.withStore x).active = s.active := rfl
@[simp] theorem State.withStore_staged (s : State) (x : Store) : (s.withStore x).staged = s.staged := rfl
@[simp] theorem State.withStore_settings (s : State) (x : Store) : (s.withStore x).settings = s.settings := rfl
@[simp] theorem State.withStore_timer (s : State) (x : Store) : (s.withStore x).timer = s.timer := rfl
@[simp] theorem State.withStore_engine (s : State) (x : Store) : (s.withStore x).engine = s.engine := rfl
@[simp] theorem State.withStore_table (s : State) (x : Store) : (s.withStore x).table = s.table := rfl
@[simp] theorem State.withStore_events (s : State) (x : Store) : (s.withStore x).events = s.events := rfl
@[simp] theorem State.withStore_stats (s : State) (x : Store) : (s.withStore x).stats = s.stats := rfl
@[simp] theorem State.withStore_ctl (s : State) (x : Store) : (s.withStore x).ctl = s.ctl := rfl
@[simp] theorem State.withStore_link (s : State) (x : Store) : (s.withStore x).link = s.link := rfl
@[simp] theorem State.withStore_pending (s : State) (x : Store) : (s.withStore x).pending = s.pending := rfl
@[simp] theorem State.withStore_withStore (s : State) (x y : Store) : (s.withStore x).withStore y = s.withStore y := rfl
@[simp] theorem State.withStore_self (s : State) : s.withStore s.store = s := rfl
@[simp] theorem State.withPort_streams (s : State) (x : Port) : (s.withPort x).streams = s.streams := rfl
@[simp] theorem State.withPort_store (s : State) (x : Port) : (s.withPort x).store = s.store := rfl
@[simp] theorem State.withPort_port (s : State) (x : Port) : (s.withPort x).port = x := rfl
@[simp] theorem State.withPort_dp (s : State) (x : Port) : (s.withPort x).dp = s.dp := rfl
@[simp] theorem State.withPort_active (s : State) (x : Port) : (s.withPort x).active = s.active := rfl
@[simp] theorem State.withPort_staged (s : State) (x : Port) : (s.withPort x).staged = s.staged := rfl
@[simp] theorem State.withPort_settings (s : State) (x : Port) : (s.withPort x).settings = s.settings := rfl
@[simp] theorem State.withPort_timer (s : State) (x : Port) : (s.withPort x).timer = s.timer := rfl
@[simp] theorem State.withPort_engine (s : State) (x : Port) : (s.withPort x).engine = s.engine := rfl
@[simp] theorem State.withPort_table (s : State) (x : Port) : (s.withPort x).table = s.table := rfl
@[simp] theorem State.withPort_events (s : State) (x : Port) : (s.withPort x).events = s.events := rfl
@[simp] theorem State.withPort_stats (s : State) (x : Port) : (s.withPort x).stats = s.stats := rfl
@[simp] theorem State.withPort_ctl (s : State) (x : Port) : (s.withPort x).ctl = s.ctl := rfl
@[simp] theorem State.withPort_link (s : State) (x : Port) : (s.withPort x).link = s.link := rfl
@[simp] theorem State.withPort_pending (s : State) (x : Port) : (s.withPort x).pending = s.pending := rfl
@[simp] theorem State.withPort_withPort (s : State) (x y : Port) : (s.withPort x).withPort y = s.withPort y := rfl
@[simp] theorem State.withPort_self (s : State) : s.withPort s.port = s := rfl
@[simp] theorem State.withDp_streams (s : State) (x : Down) : (s.withDp x).streams = s.streams := rfl
@[simp] theorem State.withDp_store (s : State) (x : Down) : (s.withDp x).store = s.store := rfl
@[simp] theorem State.withDp_port (s : State) (x : Down) : (s.withDp x).port = s.port := rfl
@[simp] theorem State.withDp_dp (s : State) (x : Down) : (s.withDp x).dp = x := rfl
@[simp] theorem State.withDp_active (s : State) (x : Down) : (s.withDp x).active = s.active := rfl
@[simp] theorem State.withDp_staged (s : State) (x : Down) : (s.withDp x).staged = s.staged := rfl
@[simp] theorem State.withDp_settings (s : State) (x : Down) : (s.withDp x).settings = s.settings := rfl
@[simp] theorem State.withDp_timer (s : State) (x : Down) : (s.withDp x).timer = s.timer := rfl
@[simp] theorem State.withDp_engine (s : State) (x : Down) : (s.withDp x).engine = s.engine := rfl
@[simp] theorem State.withDp_table (s : State) (x : Down) : (s.withDp x).table = s.table := rfl
@[simp] theorem State.withDp_events (s : State) (x : Down) : (s.withDp x).events = s.events := rfl
@[simp] theorem State.withDp_stats (s : State) (x : Down) : (s.withDp x).stats = s.stats := rfl
@[simp] theorem State.withDp_ctl (s : State) (x : Down) : (s.withDp x).ctl = s.ctl := rfl
@[simp] theorem State.withDp_link (s : State) (x : Down) : (s.withDp x).link = s.link := rfl
@[simp] theorem State.withDp_pending (s : State) (x : Down) : (s.withDp x).pending = s.pending := rfl
@[simp] theorem State.withDp_withDp (s : State) (x y : Down) : (s.withDp x).withDp y = s.withDp y := rfl
@[simp] theorem State.withDp_self (s : State) : s.withDp s.dp = s := rfl
@[simp] theorem State.withActive_streams (s : State) (x : Bank) : (s.withActive x).streams = s.streams := rfl
@[simp] theorem State.withActive_store (s : State) (x : Bank) : (s.withActive x).store = s.store := rfl
@[simp] theorem State.withActive_port (s : State) (x : Bank) : (s.withActive x).port = s.port := rfl
@[simp] theorem State.withActive_dp (s : State) (x : Bank) : (s.withActive x).dp = s.dp := rfl
@[simp] theorem State.withActive_active (s : State) (x : Bank) : (s.withActive x).active = x := rfl
@[simp] theorem State.withActive_staged (s : State) (x : Bank) : (s.withActive x).staged = s.staged := rfl
@[simp] theorem State.withActive_settings (s : State) (x : Bank) : (s.withActive x).settings = s.settings := rfl
@[simp] theorem State.withActive_timer (s : State) (x : Bank) : (s.withActive x).timer = s.timer := rfl
@[simp] theorem State.withActive_engine (s : State) (x : Bank) : (s.withActive x).engine = s.engine := rfl
@[simp] theorem State.withActive_table (s : State) (x : Bank) : (s.withActive x).table = s.table := rfl
@[simp] theorem State.withActive_events (s : State) (x : Bank) : (s.withActive x).events = s.events := rfl
@[simp] theorem State.withActive_stats (s : State) (x : Bank) : (s.withActive x).stats = s.stats := rfl
@[simp] theorem State.withActive_ctl (s : State) (x : Bank) : (s.withActive x).ctl = s.ctl := rfl
@[simp] theorem State.withActive_link (s : State) (x : Bank) : (s.withActive x).link = s.link := rfl
@[simp] theorem State.withActive_pending (s : State) (x : Bank) : (s.withActive x).pending = s.pending := rfl
@[simp] theorem State.withActive_withActive (s : State) (x y : Bank) : (s.withActive x).withActive y = s.withActive y := rfl
@[simp] theorem State.withActive_self (s : State) : s.withActive s.active = s := rfl
@[simp] theorem State.withStaged_streams (s : State) (x : Bank) : (s.withStaged x).streams = s.streams := rfl
@[simp] theorem State.withStaged_store (s : State) (x : Bank) : (s.withStaged x).store = s.store := rfl
@[simp] theorem State.withStaged_port (s : State) (x : Bank) : (s.withStaged x).port = s.port := rfl
@[simp] theorem State.withStaged_dp (s : State) (x : Bank) : (s.withStaged x).dp = s.dp := rfl
@[simp] theorem State.withStaged_active (s : State) (x : Bank) : (s.withStaged x).active = s.active := rfl
@[simp] theorem State.withStaged_staged (s : State) (x : Bank) : (s.withStaged x).staged = x := rfl
@[simp] theorem State.withStaged_settings (s : State) (x : Bank) : (s.withStaged x).settings = s.settings := rfl
@[simp] theorem State.withStaged_timer (s : State) (x : Bank) : (s.withStaged x).timer = s.timer := rfl
@[simp] theorem State.withStaged_engine (s : State) (x : Bank) : (s.withStaged x).engine = s.engine := rfl
@[simp] theorem State.withStaged_table (s : State) (x : Bank) : (s.withStaged x).table = s.table := rfl
@[simp] theorem State.withStaged_events (s : State) (x : Bank) : (s.withStaged x).events = s.events := rfl
@[simp] theorem State.withStaged_stats (s : State) (x : Bank) : (s.withStaged x).stats = s.stats := rfl
@[simp] theorem State.withStaged_ctl (s : State) (x : Bank) : (s.withStaged x).ctl = s.ctl := rfl
@[simp] theorem State.withStaged_link (s : State) (x : Bank) : (s.withStaged x).link = s.link := rfl
@[simp] theorem State.withStaged_pending (s : State) (x : Bank) : (s.withStaged x).pending = s.pending := rfl
@[simp] theorem State.withStaged_withStaged (s : State) (x y : Bank) : (s.withStaged x).withStaged y = s.withStaged y := rfl
@[simp] theorem State.withStaged_self (s : State) : s.withStaged s.staged = s := rfl
@[simp] theorem State.withSettings_streams (s : State) (x : Settings) : (s.withSettings x).streams = s.streams := rfl
@[simp] theorem State.withSettings_store (s : State) (x : Settings) : (s.withSettings x).store = s.store := rfl
@[simp] theorem State.withSettings_port (s : State) (x : Settings) : (s.withSettings x).port = s.port := rfl
@[simp] theorem State.withSettings_dp (s : State) (x : Settings) : (s.withSettings x).dp = s.dp := rfl
@[simp] theorem State.withSettings_active (s : State) (x : Settings) : (s.withSettings x).active = s.active := rfl
@[simp] theorem State.withSettings_staged (s : State) (x : Settings) : (s.withSettings x).staged = s.staged := rfl
@[simp] theorem State.withSettings_settings (s : State) (x : Settings) : (s.withSettings x).settings = x := rfl
@[simp] theorem State.withSettings_timer (s : State) (x : Settings) : (s.withSettings x).timer = s.timer := rfl
@[simp] theorem State.withSettings_engine (s : State) (x : Settings) : (s.withSettings x).engine = s.engine := rfl
@[simp] theorem State.withSettings_table (s : State) (x : Settings) : (s.withSettings x).table = s.table := rfl
@[simp] theorem State.withSettings_events (s : State) (x : Settings) : (s.withSettings x).events = s.events := rfl
@[simp] theorem State.withSettings_stats (s : State) (x : Settings) : (s.withSettings x).stats = s.stats := rfl
@[simp] theorem State.withSettings_ctl (s : State) (x : Settings) : (s.withSettings x).ctl = s.ctl := rfl
@[simp] theorem State.withSettings_link (s : State) (x : Settings) : (s.withSettings x).link = s.link := rfl
@[simp] theorem State.withSettings_pending (s : State) (x : Settings) : (s.withSettings x).pending = s.pending := rfl
@[simp] theorem State.withSettings_withSettings (s : State) (x y : Settings) : (s.withSettings x).withSettings y = s.withSettings y := rfl
@[simp] theorem State.withSettings_self (s : State) : s.withSettings s.settings = s := rfl
@[simp] theorem State.withTimer_streams (s : State) (x : Timer) : (s.withTimer x).streams = s.streams := rfl
@[simp] theorem State.withTimer_store (s : State) (x : Timer) : (s.withTimer x).store = s.store := rfl
@[simp] theorem State.withTimer_port (s : State) (x : Timer) : (s.withTimer x).port = s.port := rfl
@[simp] theorem State.withTimer_dp (s : State) (x : Timer) : (s.withTimer x).dp = s.dp := rfl
@[simp] theorem State.withTimer_active (s : State) (x : Timer) : (s.withTimer x).active = s.active := rfl
@[simp] theorem State.withTimer_staged (s : State) (x : Timer) : (s.withTimer x).staged = s.staged := rfl
@[simp] theorem State.withTimer_settings (s : State) (x : Timer) : (s.withTimer x).settings = s.settings := rfl
@[simp] theorem State.withTimer_timer (s : State) (x : Timer) : (s.withTimer x).timer = x := rfl
@[simp] theorem State.withTimer_engine (s : State) (x : Timer) : (s.withTimer x).engine = s.engine := rfl
@[simp] theorem State.withTimer_table (s : State) (x : Timer) : (s.withTimer x).table = s.table := rfl
@[simp] theorem State.withTimer_events (s : State) (x : Timer) : (s.withTimer x).events = s.events := rfl
@[simp] theorem State.withTimer_stats (s : State) (x : Timer) : (s.withTimer x).stats = s.stats := rfl
@[simp] theorem State.withTimer_ctl (s : State) (x : Timer) : (s.withTimer x).ctl = s.ctl := rfl
@[simp] theorem State.withTimer_link (s : State) (x : Timer) : (s.withTimer x).link = s.link := rfl
@[simp] theorem State.withTimer_pending (s : State) (x : Timer) : (s.withTimer x).pending = s.pending := rfl
@[simp] theorem State.withTimer_withTimer (s : State) (x y : Timer) : (s.withTimer x).withTimer y = s.withTimer y := rfl
@[simp] theorem State.withTimer_self (s : State) : s.withTimer s.timer = s := rfl
@[simp] theorem State.withEngine_streams (s : State) (x : Engine) : (s.withEngine x).streams = s.streams := rfl
@[simp] theorem State.withEngine_store (s : State) (x : Engine) : (s.withEngine x).store = s.store := rfl
@[simp] theorem State.withEngine_port (s : State) (x : Engine) : (s.withEngine x).port = s.port := rfl
@[simp] theorem State.withEngine_dp (s : State) (x : Engine) : (s.withEngine x).dp = s.dp := rfl
@[simp] theorem State.withEngine_active (s : State) (x : Engine) : (s.withEngine x).active = s.active := rfl
@[simp] theorem State.withEngine_staged (s : State) (x : Engine) : (s.withEngine x).staged = s.staged := rfl
@[simp] theorem State.withEngine_settings (s : State) (x : Engine) : (s.withEngine x).settings = s.settings := rfl
@[simp] theorem State.withEngine_timer (s : State) (x : Engine) : (s.withEngine x).timer = s.timer := rfl
@[simp] theorem State.withEngine_engine (s : State) (x : Engine) : (s.withEngine x).engine = x := rfl
@[simp] theorem State.withEngine_table (s : State) (x : Engine) : (s.withEngine x).table = s.table := rfl
@[simp] theorem State.withEngine_events (s : State) (x : Engine) : (s.withEngine x).events = s.events := rfl
@[simp] theorem State.withEngine_stats (s : State) (x : Engine) : (s.withEngine x).stats = s.stats := rfl
@[simp] theorem State.withEngine_ctl (s : State) (x : Engine) : (s.withEngine x).ctl = s.ctl := rfl
@[simp] theorem State.withEngine_link (s : State) (x : Engine) : (s.withEngine x).link = s.link := rfl
@[simp] theorem State.withEngine_pending (s : State) (x : Engine) : (s.withEngine x).pending = s.pending := rfl
@[simp] theorem State.withEngine_withEngine (s : State) (x y : Engine) : (s.withEngine x).withEngine y = s.withEngine y := rfl
@[simp] theorem State.withEngine_self (s : State) : s.withEngine s.engine = s := rfl
@[simp] theorem State.withTable_streams (s : State) (x : Table numTags Entry) : (s.withTable x).streams = s.streams := rfl
@[simp] theorem State.withTable_store (s : State) (x : Table numTags Entry) : (s.withTable x).store = s.store := rfl
@[simp] theorem State.withTable_port (s : State) (x : Table numTags Entry) : (s.withTable x).port = s.port := rfl
@[simp] theorem State.withTable_dp (s : State) (x : Table numTags Entry) : (s.withTable x).dp = s.dp := rfl
@[simp] theorem State.withTable_active (s : State) (x : Table numTags Entry) : (s.withTable x).active = s.active := rfl
@[simp] theorem State.withTable_staged (s : State) (x : Table numTags Entry) : (s.withTable x).staged = s.staged := rfl
@[simp] theorem State.withTable_settings (s : State) (x : Table numTags Entry) : (s.withTable x).settings = s.settings := rfl
@[simp] theorem State.withTable_timer (s : State) (x : Table numTags Entry) : (s.withTable x).timer = s.timer := rfl
@[simp] theorem State.withTable_engine (s : State) (x : Table numTags Entry) : (s.withTable x).engine = s.engine := rfl
@[simp] theorem State.withTable_table (s : State) (x : Table numTags Entry) : (s.withTable x).table = x := rfl
@[simp] theorem State.withTable_events (s : State) (x : Table numTags Entry) : (s.withTable x).events = s.events := rfl
@[simp] theorem State.withTable_stats (s : State) (x : Table numTags Entry) : (s.withTable x).stats = s.stats := rfl
@[simp] theorem State.withTable_ctl (s : State) (x : Table numTags Entry) : (s.withTable x).ctl = s.ctl := rfl
@[simp] theorem State.withTable_link (s : State) (x : Table numTags Entry) : (s.withTable x).link = s.link := rfl
@[simp] theorem State.withTable_pending (s : State) (x : Table numTags Entry) : (s.withTable x).pending = s.pending := rfl
@[simp] theorem State.withTable_withTable (s : State) (x y : Table numTags Entry) : (s.withTable x).withTable y = s.withTable y := rfl
@[simp] theorem State.withTable_self (s : State) : s.withTable s.table = s := rfl
@[simp] theorem State.withEvents_streams (s : State) (x : Events) : (s.withEvents x).streams = s.streams := rfl
@[simp] theorem State.withEvents_store (s : State) (x : Events) : (s.withEvents x).store = s.store := rfl
@[simp] theorem State.withEvents_port (s : State) (x : Events) : (s.withEvents x).port = s.port := rfl
@[simp] theorem State.withEvents_dp (s : State) (x : Events) : (s.withEvents x).dp = s.dp := rfl
@[simp] theorem State.withEvents_active (s : State) (x : Events) : (s.withEvents x).active = s.active := rfl
@[simp] theorem State.withEvents_staged (s : State) (x : Events) : (s.withEvents x).staged = s.staged := rfl
@[simp] theorem State.withEvents_settings (s : State) (x : Events) : (s.withEvents x).settings = s.settings := rfl
@[simp] theorem State.withEvents_timer (s : State) (x : Events) : (s.withEvents x).timer = s.timer := rfl
@[simp] theorem State.withEvents_engine (s : State) (x : Events) : (s.withEvents x).engine = s.engine := rfl
@[simp] theorem State.withEvents_table (s : State) (x : Events) : (s.withEvents x).table = s.table := rfl
@[simp] theorem State.withEvents_events (s : State) (x : Events) : (s.withEvents x).events = x := rfl
@[simp] theorem State.withEvents_stats (s : State) (x : Events) : (s.withEvents x).stats = s.stats := rfl
@[simp] theorem State.withEvents_ctl (s : State) (x : Events) : (s.withEvents x).ctl = s.ctl := rfl
@[simp] theorem State.withEvents_link (s : State) (x : Events) : (s.withEvents x).link = s.link := rfl
@[simp] theorem State.withEvents_pending (s : State) (x : Events) : (s.withEvents x).pending = s.pending := rfl
@[simp] theorem State.withEvents_withEvents (s : State) (x y : Events) : (s.withEvents x).withEvents y = s.withEvents y := rfl
@[simp] theorem State.withEvents_self (s : State) : s.withEvents s.events = s := rfl
@[simp] theorem State.withStats_streams (s : State) (x : Stats) : (s.withStats x).streams = s.streams := rfl
@[simp] theorem State.withStats_store (s : State) (x : Stats) : (s.withStats x).store = s.store := rfl
@[simp] theorem State.withStats_port (s : State) (x : Stats) : (s.withStats x).port = s.port := rfl
@[simp] theorem State.withStats_dp (s : State) (x : Stats) : (s.withStats x).dp = s.dp := rfl
@[simp] theorem State.withStats_active (s : State) (x : Stats) : (s.withStats x).active = s.active := rfl
@[simp] theorem State.withStats_staged (s : State) (x : Stats) : (s.withStats x).staged = s.staged := rfl
@[simp] theorem State.withStats_settings (s : State) (x : Stats) : (s.withStats x).settings = s.settings := rfl
@[simp] theorem State.withStats_timer (s : State) (x : Stats) : (s.withStats x).timer = s.timer := rfl
@[simp] theorem State.withStats_engine (s : State) (x : Stats) : (s.withStats x).engine = s.engine := rfl
@[simp] theorem State.withStats_table (s : State) (x : Stats) : (s.withStats x).table = s.table := rfl
@[simp] theorem State.withStats_events (s : State) (x : Stats) : (s.withStats x).events = s.events := rfl
@[simp] theorem State.withStats_stats (s : State) (x : Stats) : (s.withStats x).stats = x := rfl
@[simp] theorem State.withStats_ctl (s : State) (x : Stats) : (s.withStats x).ctl = s.ctl := rfl
@[simp] theorem State.withStats_link (s : State) (x : Stats) : (s.withStats x).link = s.link := rfl
@[simp] theorem State.withStats_pending (s : State) (x : Stats) : (s.withStats x).pending = s.pending := rfl
@[simp] theorem State.withStats_withStats (s : State) (x y : Stats) : (s.withStats x).withStats y = s.withStats y := rfl
@[simp] theorem State.withStats_self (s : State) : s.withStats s.stats = s := rfl
@[simp] theorem State.withCtl_streams (s : State) (x : Control) : (s.withCtl x).streams = s.streams := rfl
@[simp] theorem State.withCtl_store (s : State) (x : Control) : (s.withCtl x).store = s.store := rfl
@[simp] theorem State.withCtl_port (s : State) (x : Control) : (s.withCtl x).port = s.port := rfl
@[simp] theorem State.withCtl_dp (s : State) (x : Control) : (s.withCtl x).dp = s.dp := rfl
@[simp] theorem State.withCtl_active (s : State) (x : Control) : (s.withCtl x).active = s.active := rfl
@[simp] theorem State.withCtl_staged (s : State) (x : Control) : (s.withCtl x).staged = s.staged := rfl
@[simp] theorem State.withCtl_settings (s : State) (x : Control) : (s.withCtl x).settings = s.settings := rfl
@[simp] theorem State.withCtl_timer (s : State) (x : Control) : (s.withCtl x).timer = s.timer := rfl
@[simp] theorem State.withCtl_engine (s : State) (x : Control) : (s.withCtl x).engine = s.engine := rfl
@[simp] theorem State.withCtl_table (s : State) (x : Control) : (s.withCtl x).table = s.table := rfl
@[simp] theorem State.withCtl_events (s : State) (x : Control) : (s.withCtl x).events = s.events := rfl
@[simp] theorem State.withCtl_stats (s : State) (x : Control) : (s.withCtl x).stats = s.stats := rfl
@[simp] theorem State.withCtl_ctl (s : State) (x : Control) : (s.withCtl x).ctl = x := rfl
@[simp] theorem State.withCtl_link (s : State) (x : Control) : (s.withCtl x).link = s.link := rfl
@[simp] theorem State.withCtl_pending (s : State) (x : Control) : (s.withCtl x).pending = s.pending := rfl
@[simp] theorem State.withCtl_withCtl (s : State) (x y : Control) : (s.withCtl x).withCtl y = s.withCtl y := rfl
@[simp] theorem State.withCtl_self (s : State) : s.withCtl s.ctl = s := rfl
@[simp] theorem State.withLink_streams (s : State) (x : Link) : (s.withLink x).streams = s.streams := rfl
@[simp] theorem State.withLink_store (s : State) (x : Link) : (s.withLink x).store = s.store := rfl
@[simp] theorem State.withLink_port (s : State) (x : Link) : (s.withLink x).port = s.port := rfl
@[simp] theorem State.withLink_dp (s : State) (x : Link) : (s.withLink x).dp = s.dp := rfl
@[simp] theorem State.withLink_active (s : State) (x : Link) : (s.withLink x).active = s.active := rfl
@[simp] theorem State.withLink_staged (s : State) (x : Link) : (s.withLink x).staged = s.staged := rfl
@[simp] theorem State.withLink_settings (s : State) (x : Link) : (s.withLink x).settings = s.settings := rfl
@[simp] theorem State.withLink_timer (s : State) (x : Link) : (s.withLink x).timer = s.timer := rfl
@[simp] theorem State.withLink_engine (s : State) (x : Link) : (s.withLink x).engine = s.engine := rfl
@[simp] theorem State.withLink_table (s : State) (x : Link) : (s.withLink x).table = s.table := rfl
@[simp] theorem State.withLink_events (s : State) (x : Link) : (s.withLink x).events = s.events := rfl
@[simp] theorem State.withLink_stats (s : State) (x : Link) : (s.withLink x).stats = s.stats := rfl
@[simp] theorem State.withLink_ctl (s : State) (x : Link) : (s.withLink x).ctl = s.ctl := rfl
@[simp] theorem State.withLink_link (s : State) (x : Link) : (s.withLink x).link = x := rfl
@[simp] theorem State.withLink_pending (s : State) (x : Link) : (s.withLink x).pending = s.pending := rfl
@[simp] theorem State.withLink_withLink (s : State) (x y : Link) : (s.withLink x).withLink y = s.withLink y := rfl
@[simp] theorem State.withLink_self (s : State) : s.withLink s.link = s := rfl
@[simp] theorem State.withPending_streams (s : State) (x : List Instr) : (s.withPending x).streams = s.streams := rfl
@[simp] theorem State.withPending_store (s : State) (x : List Instr) : (s.withPending x).store = s.store := rfl
@[simp] theorem State.withPending_port (s : State) (x : List Instr) : (s.withPending x).port = s.port := rfl
@[simp] theorem State.withPending_dp (s : State) (x : List Instr) : (s.withPending x).dp = s.dp := rfl
@[simp] theorem State.withPending_active (s : State) (x : List Instr) : (s.withPending x).active = s.active := rfl
@[simp] theorem State.withPending_staged (s : State) (x : List Instr) : (s.withPending x).staged = s.staged := rfl
@[simp] theorem State.withPending_settings (s : State) (x : List Instr) : (s.withPending x).settings = s.settings := rfl
@[simp] theorem State.withPending_timer (s : State) (x : List Instr) : (s.withPending x).timer = s.timer := rfl
@[simp] theorem State.withPending_engine (s : State) (x : List Instr) : (s.withPending x).engine = s.engine := rfl
@[simp] theorem State.withPending_table (s : State) (x : List Instr) : (s.withPending x).table = s.table := rfl
@[simp] theorem State.withPending_events (s : State) (x : List Instr) : (s.withPending x).events = s.events := rfl
@[simp] theorem State.withPending_stats (s : State) (x : List Instr) : (s.withPending x).stats = s.stats := rfl
@[simp] theorem State.withPending_ctl (s : State) (x : List Instr) : (s.withPending x).ctl = s.ctl := rfl
@[simp] theorem State.withPending_link (s : State) (x : List Instr) : (s.withPending x).link = s.link := rfl
@[simp] theorem State.withPending_pending (s : State) (x : List Instr) : (s.withPending x).pending = x := rfl
@[simp] theorem State.withPending_withPending (s : State) (x y : List Instr) : (s.withPending x).withPending y = s.withPending y := rfl
@[simp] theorem State.withPending_self (s : State) : s.withPending s.pending = s := rfl

/-- Two states with equal fields are equal. -/
theorem State.ext_fields {s t : State}
    (h_streams : s.streams = t.streams)
    (h_store : s.store = t.store)
    (h_port : s.port = t.port)
    (h_dp : s.dp = t.dp)
    (h_active : s.active = t.active)
    (h_staged : s.staged = t.staged)
    (h_settings : s.settings = t.settings)
    (h_timer : s.timer = t.timer)
    (h_engine : s.engine = t.engine)
    (h_table : s.table = t.table)
    (h_events : s.events = t.events)
    (h_stats : s.stats = t.stats)
    (h_ctl : s.ctl = t.ctl)
    (h_link : s.link = t.link)
    (h_pending : s.pending = t.pending)
    : s = t := by
  cases s; cases t; simp_all

end Sys2Proof.Machine
end

