-- ==== Sys2Proof/Laws/Table.lean ====
section
/-! SUPPORT. Reading a table after each of its operations. -/
namespace Sys2Proof

variable {n : Nat} {α β : Type}

@[ext] theorem Table.ext {t u : Table n α} (h : t.cells = u.cells) : t = u := by
  cases t; cases u; simp_all

theorem Table.get_eq (t : Table n α) (i : Fin n) : t.get i = t.cells[i.val]'(by rw [t.size]; exact i.isLt) := rfl

/-- Two tables that read alike are equal. -/
theorem Table.ext_get {t u : Table n α} (h : ∀ i, t.get i = u.get i) : t = u := by
  apply Table.ext
  apply List.ext_getElem
  · rw [t.size, u.size]
  · intro i h₁ h₂
    exact h ⟨i, by rw [← t.size]; exact h₁⟩

@[simp] theorem Table.get_set_self (t : Table n α) (i : Fin n) (a : α) : (t.set i a).get i = a := by
  simp [Table.get, Table.set]

@[simp] theorem Table.get_set_ne (t : Table n α) {i j : Fin n} (a : α) (h : i ≠ j) : (t.set i a).get j = t.get j := by
  have : i.val ≠ j.val := fun e => h (Fin.ext e)
  simp [Table.get, Table.set, this]

theorem Table.get_set (t : Table n α) (i j : Fin n) (a : α) :
    (t.set i a).get j = if i = j then a else t.get j := by
  by_cases h : i = j
  · subst h; simp
  · simp [h]

@[simp] theorem Table.set_get_self (t : Table n α) (i : Fin n) : t.set i (t.get i) = t := by
  apply Table.ext_get
  intro j
  by_cases h : i = j
  · subst h; simp
  · simp [h]

@[simp] theorem Table.set_set (t : Table n α) (i : Fin n) (a b : α) : (t.set i a).set i b = t.set i b := by
  apply Table.ext_get
  intro j
  by_cases h : i = j
  · subst h; simp
  · simp [h]

@[simp] theorem Table.get_map (f : α → β) (t : Table n α) (i : Fin n) : (t.map f).get i = f (t.get i) := by
  simp [Table.get, Table.map]

@[simp] theorem Table.get_replicate (a : α) (i : Fin n) : (Table.replicate n a).get i = a := by
  simp [Table.get, Table.replicate]

@[simp] theorem Table.cells_set (t : Table n α) (i : Fin n) (a : α) : (t.set i a).cells = t.cells.set i.val a := rfl
@[simp] theorem Table.cells_map (f : α → β) (t : Table n α) : (t.map f).cells = t.cells.map f := rfl
@[simp] theorem Table.cells_replicate (a : α) : (Table.replicate n a).cells = List.replicate n a := rfl

/-- A table's cells are what it reads, place 0 first. -/
theorem Table.cells_eq_ofFn (t : Table n α) : t.cells = List.ofFn t.get := by
  apply List.ext_getElem
  · simp [t.size]
  · intro i h₁ h₂
    simp [Table.get]

/-- Something is in a table exactly when some place reads it. -/
theorem Table.mem_cells (t : Table n α) (a : α) : a ∈ t.cells ↔ ∃ i, t.get i = a := by
  rw [t.cells_eq_ofFn, List.mem_ofFn]

end Sys2Proof
end

