-- ==== Sys2Proof/Laws/Ops.lean ====
section
/-! SUPPORT. What each operation of Machine/Ops.lean leaves unchanged: one lemma for each field. -/
namespace Sys2Proof.Machine
open Sys2Proof

@[simp] theorem updStream_store (k : StreamId) (f : StreamEntry → StreamEntry) (s : State) : (updStream k f s).store = s.store := rfl
@[simp] theorem updStream_port (k : StreamId) (f : StreamEntry → StreamEntry) (s : State) : (updStream k f s).port = s.port := rfl
@[simp] theorem updStream_dp (k : StreamId) (f : StreamEntry → StreamEntry) (s : State) : (updStream k f s).dp = s.dp := rfl
@[simp] theorem updStream_active (k : StreamId) (f : StreamEntry → StreamEntry) (s : State) : (updStream k f s).active = s.active := rfl
@[simp] theorem updStream_staged (k : StreamId) (f : StreamEntry → StreamEntry) (s : State) : (updStream k f s).staged = s.staged := rfl
@[simp] theorem updStream_settings (k : StreamId) (f : StreamEntry → StreamEntry) (s : State) : (updStream k f s).settings = s.settings := rfl
@[simp] theorem updStream_timer (k : StreamId) (f : StreamEntry → StreamEntry) (s : State) : (updStream k f s).timer = s.timer := rfl
@[simp] theorem updStream_engine (k : StreamId) (f : StreamEntry → StreamEntry) (s : State) : (updStream k f s).engine = s.engine := rfl
@[simp] theorem updStream_table (k : StreamId) (f : StreamEntry → StreamEntry) (s : State) : (updStream k f s).table = s.table := rfl
@[simp] theorem updStream_events (k : StreamId) (f : StreamEntry → StreamEntry) (s : State) : (updStream k f s).events = s.events := rfl
@[simp] theorem updStream_stats (k : StreamId) (f : StreamEntry → StreamEntry) (s : State) : (updStream k f s).stats = s.stats := rfl
@[simp] theorem updStream_ctl (k : StreamId) (f : StreamEntry → StreamEntry) (s : State) : (updStream k f s).ctl = s.ctl := rfl
@[simp] theorem updStream_link (k : StreamId) (f : StreamEntry → StreamEntry) (s : State) : (updStream k f s).link = s.link := rfl
@[simp] theorem updStream_pending (k : StreamId) (f : StreamEntry → StreamEntry) (s : State) : (updStream k f s).pending = s.pending := rfl
@[simp] theorem updStats_streams (k : StreamId) (f : StreamStats → StreamStats) (s : State) : (updStats k f s).streams = s.streams := rfl
@[simp] theorem updStats_store (k : StreamId) (f : StreamStats → StreamStats) (s : State) : (updStats k f s).store = s.store := rfl
@[simp] theorem updStats_port (k : StreamId) (f : StreamStats → StreamStats) (s : State) : (updStats k f s).port = s.port := rfl
@[simp] theorem updStats_dp (k : StreamId) (f : StreamStats → StreamStats) (s : State) : (updStats k f s).dp = s.dp := rfl
@[simp] theorem updStats_active (k : StreamId) (f : StreamStats → StreamStats) (s : State) : (updStats k f s).active = s.active := rfl
@[simp] theorem updStats_staged (k : StreamId) (f : StreamStats → StreamStats) (s : State) : (updStats k f s).staged = s.staged := rfl
@[simp] theorem updStats_settings (k : StreamId) (f : StreamStats → StreamStats) (s : State) : (updStats k f s).settings = s.settings := rfl
@[simp] theorem updStats_timer (k : StreamId) (f : StreamStats → StreamStats) (s : State) : (updStats k f s).timer = s.timer := rfl
@[simp] theorem updStats_engine (k : StreamId) (f : StreamStats → StreamStats) (s : State) : (updStats k f s).engine = s.engine := rfl
@[simp] theorem updStats_table (k : StreamId) (f : StreamStats → StreamStats) (s : State) : (updStats k f s).table = s.table := rfl
@[simp] theorem updStats_events (k : StreamId) (f : StreamStats → StreamStats) (s : State) : (updStats k f s).events = s.events := rfl
@[simp] theorem updStats_ctl (k : StreamId) (f : StreamStats → StreamStats) (s : State) : (updStats k f s).ctl = s.ctl := rfl
@[simp] theorem updStats_link (k : StreamId) (f : StreamStats → StreamStats) (s : State) : (updStats k f s).link = s.link := rfl
@[simp] theorem updStats_pending (k : StreamId) (f : StreamStats → StreamStats) (s : State) : (updStats k f s).pending = s.pending := rfl
@[simp] theorem updGlobals_streams (f : GlobalStats → GlobalStats) (s : State) : (updGlobals f s).streams = s.streams := rfl
@[simp] theorem updGlobals_store (f : GlobalStats → GlobalStats) (s : State) : (updGlobals f s).store = s.store := rfl
@[simp] theorem updGlobals_port (f : GlobalStats → GlobalStats) (s : State) : (updGlobals f s).port = s.port := rfl
@[simp] theorem updGlobals_dp (f : GlobalStats → GlobalStats) (s : State) : (updGlobals f s).dp = s.dp := rfl
@[simp] theorem updGlobals_active (f : GlobalStats → GlobalStats) (s : State) : (updGlobals f s).active = s.active := rfl
@[simp] theorem updGlobals_staged (f : GlobalStats → GlobalStats) (s : State) : (updGlobals f s).staged = s.staged := rfl
@[simp] theorem updGlobals_settings (f : GlobalStats → GlobalStats) (s : State) : (updGlobals f s).settings = s.settings := rfl
@[simp] theorem updGlobals_timer (f : GlobalStats → GlobalStats) (s : State) : (updGlobals f s).timer = s.timer := rfl
@[simp] theorem updGlobals_engine (f : GlobalStats → GlobalStats) (s : State) : (updGlobals f s).engine = s.engine := rfl
@[simp] theorem updGlobals_table (f : GlobalStats → GlobalStats) (s : State) : (updGlobals f s).table = s.table := rfl
@[simp] theorem updGlobals_events (f : GlobalStats → GlobalStats) (s : State) : (updGlobals f s).events = s.events := rfl
@[simp] theorem updGlobals_ctl (f : GlobalStats → GlobalStats) (s : State) : (updGlobals f s).ctl = s.ctl := rfl
@[simp] theorem updGlobals_link (f : GlobalStats → GlobalStats) (s : State) : (updGlobals f s).link = s.link := rfl
@[simp] theorem updGlobals_pending (f : GlobalStats → GlobalStats) (s : State) : (updGlobals f s).pending = s.pending := rfl
@[simp] theorem setQueue_streams (k : StreamId) (q : List Descriptor) (s : State) : (setQueue k q s).streams = s.streams := rfl
@[simp] theorem setQueue_port (k : StreamId) (q : List Descriptor) (s : State) : (setQueue k q s).port = s.port := rfl
@[simp] theorem setQueue_dp (k : StreamId) (q : List Descriptor) (s : State) : (setQueue k q s).dp = s.dp := rfl
@[simp] theorem setQueue_active (k : StreamId) (q : List Descriptor) (s : State) : (setQueue k q s).active = s.active := rfl
@[simp] theorem setQueue_staged (k : StreamId) (q : List Descriptor) (s : State) : (setQueue k q s).staged = s.staged := rfl
@[simp] theorem setQueue_settings (k : StreamId) (q : List Descriptor) (s : State) : (setQueue k q s).settings = s.settings := rfl
@[simp] theorem setQueue_timer (k : StreamId) (q : List Descriptor) (s : State) : (setQueue k q s).timer = s.timer := rfl
@[simp] theorem setQueue_engine (k : StreamId) (q : List Descriptor) (s : State) : (setQueue k q s).engine = s.engine := rfl
@[simp] theorem setQueue_table (k : StreamId) (q : List Descriptor) (s : State) : (setQueue k q s).table = s.table := rfl
@[simp] theorem setQueue_events (k : StreamId) (q : List Descriptor) (s : State) : (setQueue k q s).events = s.events := rfl
@[simp] theorem setQueue_stats (k : StreamId) (q : List Descriptor) (s : State) : (setQueue k q s).stats = s.stats := rfl
@[simp] theorem setQueue_ctl (k : StreamId) (q : List Descriptor) (s : State) : (setQueue k q s).ctl = s.ctl := rfl
@[simp] theorem setQueue_link (k : StreamId) (q : List Descriptor) (s : State) : (setQueue k q s).link = s.link := rfl
@[simp] theorem setQueue_pending (k : StreamId) (q : List Descriptor) (s : State) : (setQueue k q s).pending = s.pending := rfl
@[simp] theorem setPass_streams (q : List Descriptor) (s : State) : (setPass q s).streams = s.streams := rfl
@[simp] theorem setPass_port (q : List Descriptor) (s : State) : (setPass q s).port = s.port := rfl
@[simp] theorem setPass_dp (q : List Descriptor) (s : State) : (setPass q s).dp = s.dp := rfl
@[simp] theorem setPass_active (q : List Descriptor) (s : State) : (setPass q s).active = s.active := rfl
@[simp] theorem setPass_staged (q : List Descriptor) (s : State) : (setPass q s).staged = s.staged := rfl
@[simp] theorem setPass_settings (q : List Descriptor) (s : State) : (setPass q s).settings = s.settings := rfl
@[simp] theorem setPass_timer (q : List Descriptor) (s : State) : (setPass q s).timer = s.timer := rfl
@[simp] theorem setPass_engine (q : List Descriptor) (s : State) : (setPass q s).engine = s.engine := rfl
@[simp] theorem setPass_table (q : List Descriptor) (s : State) : (setPass q s).table = s.table := rfl
@[simp] theorem setPass_events (q : List Descriptor) (s : State) : (setPass q s).events = s.events := rfl
@[simp] theorem setPass_stats (q : List Descriptor) (s : State) : (setPass q s).stats = s.stats := rfl
@[simp] theorem setPass_ctl (q : List Descriptor) (s : State) : (setPass q s).ctl = s.ctl := rfl
@[simp] theorem setPass_link (q : List Descriptor) (s : State) : (setPass q s).link = s.link := rfl
@[simp] theorem setPass_pending (q : List Descriptor) (s : State) : (setPass q s).pending = s.pending := rfl
@[simp] theorem setEntry_streams (t : Tag) (e : Entry) (s : State) : (setEntry t e s).streams = s.streams := rfl
@[simp] theorem setEntry_store (t : Tag) (e : Entry) (s : State) : (setEntry t e s).store = s.store := rfl
@[simp] theorem setEntry_port (t : Tag) (e : Entry) (s : State) : (setEntry t e s).port = s.port := rfl
@[simp] theorem setEntry_dp (t : Tag) (e : Entry) (s : State) : (setEntry t e s).dp = s.dp := rfl
@[simp] theorem setEntry_active (t : Tag) (e : Entry) (s : State) : (setEntry t e s).active = s.active := rfl
@[simp] theorem setEntry_staged (t : Tag) (e : Entry) (s : State) : (setEntry t e s).staged = s.staged := rfl
@[simp] theorem setEntry_settings (t : Tag) (e : Entry) (s : State) : (setEntry t e s).settings = s.settings := rfl
@[simp] theorem setEntry_timer (t : Tag) (e : Entry) (s : State) : (setEntry t e s).timer = s.timer := rfl
@[simp] theorem setEntry_engine (t : Tag) (e : Entry) (s : State) : (setEntry t e s).engine = s.engine := rfl
@[simp] theorem setEntry_events (t : Tag) (e : Entry) (s : State) : (setEntry t e s).events = s.events := rfl
@[simp] theorem setEntry_stats (t : Tag) (e : Entry) (s : State) : (setEntry t e s).stats = s.stats := rfl
@[simp] theorem setEntry_ctl (t : Tag) (e : Entry) (s : State) : (setEntry t e s).ctl = s.ctl := rfl
@[simp] theorem setEntry_link (t : Tag) (e : Entry) (s : State) : (setEntry t e s).link = s.link := rfl
@[simp] theorem setEntry_pending (t : Tag) (e : Entry) (s : State) : (setEntry t e s).pending = s.pending := rfl
@[simp] theorem emitUp_streams (r : UpResponse) (s : State) : (emitUp r s).streams = s.streams := rfl
@[simp] theorem emitUp_store (r : UpResponse) (s : State) : (emitUp r s).store = s.store := rfl
@[simp] theorem emitUp_dp (r : UpResponse) (s : State) : (emitUp r s).dp = s.dp := rfl
@[simp] theorem emitUp_active (r : UpResponse) (s : State) : (emitUp r s).active = s.active := rfl
@[simp] theorem emitUp_staged (r : UpResponse) (s : State) : (emitUp r s).staged = s.staged := rfl
@[simp] theorem emitUp_settings (r : UpResponse) (s : State) : (emitUp r s).settings = s.settings := rfl
@[simp] theorem emitUp_timer (r : UpResponse) (s : State) : (emitUp r s).timer = s.timer := rfl
@[simp] theorem emitUp_engine (r : UpResponse) (s : State) : (emitUp r s).engine = s.engine := rfl
@[simp] theorem emitUp_table (r : UpResponse) (s : State) : (emitUp r s).table = s.table := rfl
@[simp] theorem emitUp_events (r : UpResponse) (s : State) : (emitUp r s).events = s.events := rfl
@[simp] theorem emitUp_stats (r : UpResponse) (s : State) : (emitUp r s).stats = s.stats := rfl
@[simp] theorem emitUp_ctl (r : UpResponse) (s : State) : (emitUp r s).ctl = s.ctl := rfl
@[simp] theorem emitUp_link (r : UpResponse) (s : State) : (emitUp r s).link = s.link := rfl
@[simp] theorem emitUp_pending (r : UpResponse) (s : State) : (emitUp r s).pending = s.pending := rfl
@[simp] theorem setOffer_streams (o : Option UpRequest) (s : State) : (setOffer o s).streams = s.streams := rfl
@[simp] theorem setOffer_store (o : Option UpRequest) (s : State) : (setOffer o s).store = s.store := rfl
@[simp] theorem setOffer_dp (o : Option UpRequest) (s : State) : (setOffer o s).dp = s.dp := rfl
@[simp] theorem setOffer_active (o : Option UpRequest) (s : State) : (setOffer o s).active = s.active := rfl
@[simp] theorem setOffer_staged (o : Option UpRequest) (s : State) : (setOffer o s).staged = s.staged := rfl
@[simp] theorem setOffer_settings (o : Option UpRequest) (s : State) : (setOffer o s).settings = s.settings := rfl
@[simp] theorem setOffer_timer (o : Option UpRequest) (s : State) : (setOffer o s).timer = s.timer := rfl
@[simp] theorem setOffer_engine (o : Option UpRequest) (s : State) : (setOffer o s).engine = s.engine := rfl
@[simp] theorem setOffer_table (o : Option UpRequest) (s : State) : (setOffer o s).table = s.table := rfl
@[simp] theorem setOffer_events (o : Option UpRequest) (s : State) : (setOffer o s).events = s.events := rfl
@[simp] theorem setOffer_stats (o : Option UpRequest) (s : State) : (setOffer o s).stats = s.stats := rfl
@[simp] theorem setOffer_ctl (o : Option UpRequest) (s : State) : (setOffer o s).ctl = s.ctl := rfl
@[simp] theorem setOffer_link (o : Option UpRequest) (s : State) : (setOffer o s).link = s.link := rfl
@[simp] theorem setOffer_pending (o : Option UpRequest) (s : State) : (setOffer o s).pending = s.pending := rfl

end Sys2Proof.Machine
end

