-- ==== Sys2Proof/Laws/Flags.lean ====
section
/-! SUPPORT. What each operation of Machine/Flags.lean leaves unchanged: one lemma for each field. -/
namespace Sys2Proof.Machine
open Sys2Proof

@[simp] theorem present_streams (r : EventRecord) (s : State) : (present r s).streams = s.streams := rfl
@[simp] theorem present_store (r : EventRecord) (s : State) : (present r s).store = s.store := rfl
@[simp] theorem present_port (r : EventRecord) (s : State) : (present r s).port = s.port := rfl
@[simp] theorem present_dp (r : EventRecord) (s : State) : (present r s).dp = s.dp := rfl
@[simp] theorem present_active (r : EventRecord) (s : State) : (present r s).active = s.active := rfl
@[simp] theorem present_staged (r : EventRecord) (s : State) : (present r s).staged = s.staged := rfl
@[simp] theorem present_settings (r : EventRecord) (s : State) : (present r s).settings = s.settings := rfl
@[simp] theorem present_timer (r : EventRecord) (s : State) : (present r s).timer = s.timer := rfl
@[simp] theorem present_engine (r : EventRecord) (s : State) : (present r s).engine = s.engine := rfl
@[simp] theorem present_table (r : EventRecord) (s : State) : (present r s).table = s.table := rfl
@[simp] theorem present_ctl (r : EventRecord) (s : State) : (present r s).ctl = s.ctl := rfl
@[simp] theorem present_link (r : EventRecord) (s : State) : (present r s).link = s.link := rfl
@[simp] theorem present_pending (r : EventRecord) (s : State) : (present r s).pending = s.pending := rfl
@[simp] theorem recordNow_streams (kind : EventKind) (stream : Option StreamId) (request : Option (BitVec 5 × Byte)) (detail : Nat) (slot : Option SlotId) (s : State) : (recordNow kind stream request detail slot s).streams = s.streams := rfl
@[simp] theorem recordNow_store (kind : EventKind) (stream : Option StreamId) (request : Option (BitVec 5 × Byte)) (detail : Nat) (slot : Option SlotId) (s : State) : (recordNow kind stream request detail slot s).store = s.store := rfl
@[simp] theorem recordNow_port (kind : EventKind) (stream : Option StreamId) (request : Option (BitVec 5 × Byte)) (detail : Nat) (slot : Option SlotId) (s : State) : (recordNow kind stream request detail slot s).port = s.port := rfl
@[simp] theorem recordNow_dp (kind : EventKind) (stream : Option StreamId) (request : Option (BitVec 5 × Byte)) (detail : Nat) (slot : Option SlotId) (s : State) : (recordNow kind stream request detail slot s).dp = s.dp := rfl
@[simp] theorem recordNow_active (kind : EventKind) (stream : Option StreamId) (request : Option (BitVec 5 × Byte)) (detail : Nat) (slot : Option SlotId) (s : State) : (recordNow kind stream request detail slot s).active = s.active := rfl
@[simp] theorem recordNow_staged (kind : EventKind) (stream : Option StreamId) (request : Option (BitVec 5 × Byte)) (detail : Nat) (slot : Option SlotId) (s : State) : (recordNow kind stream request detail slot s).staged = s.staged := rfl
@[simp] theorem recordNow_settings (kind : EventKind) (stream : Option StreamId) (request : Option (BitVec 5 × Byte)) (detail : Nat) (slot : Option SlotId) (s : State) : (recordNow kind stream request detail slot s).settings = s.settings := rfl
@[simp] theorem recordNow_timer (kind : EventKind) (stream : Option StreamId) (request : Option (BitVec 5 × Byte)) (detail : Nat) (slot : Option SlotId) (s : State) : (recordNow kind stream request detail slot s).timer = s.timer := rfl
@[simp] theorem recordNow_engine (kind : EventKind) (stream : Option StreamId) (request : Option (BitVec 5 × Byte)) (detail : Nat) (slot : Option SlotId) (s : State) : (recordNow kind stream request detail slot s).engine = s.engine := rfl
@[simp] theorem recordNow_table (kind : EventKind) (stream : Option StreamId) (request : Option (BitVec 5 × Byte)) (detail : Nat) (slot : Option SlotId) (s : State) : (recordNow kind stream request detail slot s).table = s.table := rfl
@[simp] theorem recordNow_ctl (kind : EventKind) (stream : Option StreamId) (request : Option (BitVec 5 × Byte)) (detail : Nat) (slot : Option SlotId) (s : State) : (recordNow kind stream request detail slot s).ctl = s.ctl := rfl
@[simp] theorem recordNow_link (kind : EventKind) (stream : Option StreamId) (request : Option (BitVec 5 × Byte)) (detail : Nat) (slot : Option SlotId) (s : State) : (recordNow kind stream request detail slot s).link = s.link := rfl
@[simp] theorem recordNow_pending (kind : EventKind) (stream : Option StreamId) (request : Option (BitVec 5 × Byte)) (detail : Nat) (slot : Option SlotId) (s : State) : (recordNow kind stream request detail slot s).pending = s.pending := rfl
@[simp] theorem recordControl_streams (kind : EventKind) (detail : Nat) (s : State) : (recordControl kind detail s).streams = s.streams := rfl
@[simp] theorem recordControl_store (kind : EventKind) (detail : Nat) (s : State) : (recordControl kind detail s).store = s.store := rfl
@[simp] theorem recordControl_port (kind : EventKind) (detail : Nat) (s : State) : (recordControl kind detail s).port = s.port := rfl
@[simp] theorem recordControl_dp (kind : EventKind) (detail : Nat) (s : State) : (recordControl kind detail s).dp = s.dp := rfl
@[simp] theorem recordControl_active (kind : EventKind) (detail : Nat) (s : State) : (recordControl kind detail s).active = s.active := rfl
@[simp] theorem recordControl_staged (kind : EventKind) (detail : Nat) (s : State) : (recordControl kind detail s).staged = s.staged := rfl
@[simp] theorem recordControl_settings (kind : EventKind) (detail : Nat) (s : State) : (recordControl kind detail s).settings = s.settings := rfl
@[simp] theorem recordControl_timer (kind : EventKind) (detail : Nat) (s : State) : (recordControl kind detail s).timer = s.timer := rfl
@[simp] theorem recordControl_engine (kind : EventKind) (detail : Nat) (s : State) : (recordControl kind detail s).engine = s.engine := rfl
@[simp] theorem recordControl_table (kind : EventKind) (detail : Nat) (s : State) : (recordControl kind detail s).table = s.table := rfl
@[simp] theorem recordControl_ctl (kind : EventKind) (detail : Nat) (s : State) : (recordControl kind detail s).ctl = s.ctl := rfl
@[simp] theorem recordControl_link (kind : EventKind) (detail : Nat) (s : State) : (recordControl kind detail s).link = s.link := rfl
@[simp] theorem recordControl_pending (kind : EventKind) (detail : Nat) (s : State) : (recordControl kind detail s).pending = s.pending := rfl
@[simp] theorem countRefused_streams (stream : Option StreamId) (s : State) : (countRefused stream s).streams = s.streams := by unfold countRefused; split <;> simp
@[simp] theorem countRefused_store (stream : Option StreamId) (s : State) : (countRefused stream s).store = s.store := by unfold countRefused; split <;> simp
@[simp] theorem countRefused_port (stream : Option StreamId) (s : State) : (countRefused stream s).port = s.port := by unfold countRefused; split <;> simp
@[simp] theorem countRefused_dp (stream : Option StreamId) (s : State) : (countRefused stream s).dp = s.dp := by unfold countRefused; split <;> simp
@[simp] theorem countRefused_active (stream : Option StreamId) (s : State) : (countRefused stream s).active = s.active := by unfold countRefused; split <;> simp
@[simp] theorem countRefused_staged (stream : Option StreamId) (s : State) : (countRefused stream s).staged = s.staged := by unfold countRefused; split <;> simp
@[simp] theorem countRefused_settings (stream : Option StreamId) (s : State) : (countRefused stream s).settings = s.settings := by unfold countRefused; split <;> simp
@[simp] theorem countRefused_timer (stream : Option StreamId) (s : State) : (countRefused stream s).timer = s.timer := by unfold countRefused; split <;> simp
@[simp] theorem countRefused_engine (stream : Option StreamId) (s : State) : (countRefused stream s).engine = s.engine := by unfold countRefused; split <;> simp
@[simp] theorem countRefused_table (stream : Option StreamId) (s : State) : (countRefused stream s).table = s.table := by unfold countRefused; split <;> simp
@[simp] theorem countRefused_events (stream : Option StreamId) (s : State) : (countRefused stream s).events = s.events := by unfold countRefused; split <;> simp
@[simp] theorem countRefused_ctl (stream : Option StreamId) (s : State) : (countRefused stream s).ctl = s.ctl := by unfold countRefused; split <;> simp
@[simp] theorem countRefused_link (stream : Option StreamId) (s : State) : (countRefused stream s).link = s.link := by unfold countRefused; split <;> simp
@[simp] theorem countRefused_pending (stream : Option StreamId) (s : State) : (countRefused stream s).pending = s.pending := by unfold countRefused; split <;> simp
@[simp] theorem recordRefused_store (i : BitVec 5) (t : Byte) (reason : Reason) (stream : Option StreamId) (s : State) : (recordRefused i t reason stream s).store = s.store := by unfold recordRefused; dsimp only; ((repeat' split) <;> simp)
@[simp] theorem recordRefused_port (i : BitVec 5) (t : Byte) (reason : Reason) (stream : Option StreamId) (s : State) : (recordRefused i t reason stream s).port = s.port := by unfold recordRefused; dsimp only; ((repeat' split) <;> simp)
@[simp] theorem recordRefused_dp (i : BitVec 5) (t : Byte) (reason : Reason) (stream : Option StreamId) (s : State) : (recordRefused i t reason stream s).dp = s.dp := by unfold recordRefused; dsimp only; ((repeat' split) <;> simp)
@[simp] theorem recordRefused_active (i : BitVec 5) (t : Byte) (reason : Reason) (stream : Option StreamId) (s : State) : (recordRefused i t reason stream s).active = s.active := by unfold recordRefused; dsimp only; ((repeat' split) <;> simp)
@[simp] theorem recordRefused_staged (i : BitVec 5) (t : Byte) (reason : Reason) (stream : Option StreamId) (s : State) : (recordRefused i t reason stream s).staged = s.staged := by unfold recordRefused; dsimp only; ((repeat' split) <;> simp)
@[simp] theorem recordRefused_settings (i : BitVec 5) (t : Byte) (reason : Reason) (stream : Option StreamId) (s : State) : (recordRefused i t reason stream s).settings = s.settings := by unfold recordRefused; dsimp only; ((repeat' split) <;> simp)
@[simp] theorem recordRefused_timer (i : BitVec 5) (t : Byte) (reason : Reason) (stream : Option StreamId) (s : State) : (recordRefused i t reason stream s).timer = s.timer := by unfold recordRefused; dsimp only; ((repeat' split) <;> simp)
@[simp] theorem recordRefused_engine (i : BitVec 5) (t : Byte) (reason : Reason) (stream : Option StreamId) (s : State) : (recordRefused i t reason stream s).engine = s.engine := by unfold recordRefused; dsimp only; ((repeat' split) <;> simp)
@[simp] theorem recordRefused_table (i : BitVec 5) (t : Byte) (reason : Reason) (stream : Option StreamId) (s : State) : (recordRefused i t reason stream s).table = s.table := by unfold recordRefused; dsimp only; ((repeat' split) <;> simp)
@[simp] theorem recordRefused_ctl (i : BitVec 5) (t : Byte) (reason : Reason) (stream : Option StreamId) (s : State) : (recordRefused i t reason stream s).ctl = s.ctl := by unfold recordRefused; dsimp only; ((repeat' split) <;> simp)
@[simp] theorem recordRefused_link (i : BitVec 5) (t : Byte) (reason : Reason) (stream : Option StreamId) (s : State) : (recordRefused i t reason stream s).link = s.link := by unfold recordRefused; dsimp only; ((repeat' split) <;> simp)
@[simp] theorem recordRefused_pending (i : BitVec 5) (t : Byte) (reason : Reason) (stream : Option StreamId) (s : State) : (recordRefused i t reason stream s).pending = s.pending := by unfold recordRefused; dsimp only; ((repeat' split) <;> simp)
@[simp] theorem refuseRequest_store (i : BitVec 5) (t : Byte) (reason : Reason) (stream : Option StreamId) (s : State) : (refuseRequest i t reason stream s).store = s.store := by simp [refuseRequest]
@[simp] theorem refuseRequest_dp (i : BitVec 5) (t : Byte) (reason : Reason) (stream : Option StreamId) (s : State) : (refuseRequest i t reason stream s).dp = s.dp := by simp [refuseRequest]
@[simp] theorem refuseRequest_active (i : BitVec 5) (t : Byte) (reason : Reason) (stream : Option StreamId) (s : State) : (refuseRequest i t reason stream s).active = s.active := by simp [refuseRequest]
@[simp] theorem refuseRequest_staged (i : BitVec 5) (t : Byte) (reason : Reason) (stream : Option StreamId) (s : State) : (refuseRequest i t reason stream s).staged = s.staged := by simp [refuseRequest]
@[simp] theorem refuseRequest_settings (i : BitVec 5) (t : Byte) (reason : Reason) (stream : Option StreamId) (s : State) : (refuseRequest i t reason stream s).settings = s.settings := by simp [refuseRequest]
@[simp] theorem refuseRequest_timer (i : BitVec 5) (t : Byte) (reason : Reason) (stream : Option StreamId) (s : State) : (refuseRequest i t reason stream s).timer = s.timer := by simp [refuseRequest]
@[simp] theorem refuseRequest_engine (i : BitVec 5) (t : Byte) (reason : Reason) (stream : Option StreamId) (s : State) : (refuseRequest i t reason stream s).engine = s.engine := by simp [refuseRequest]
@[simp] theorem refuseRequest_table (i : BitVec 5) (t : Byte) (reason : Reason) (stream : Option StreamId) (s : State) : (refuseRequest i t reason stream s).table = s.table := by simp [refuseRequest]
@[simp] theorem refuseRequest_ctl (i : BitVec 5) (t : Byte) (reason : Reason) (stream : Option StreamId) (s : State) : (refuseRequest i t reason stream s).ctl = s.ctl := by simp [refuseRequest]
@[simp] theorem refuseRequest_link (i : BitVec 5) (t : Byte) (reason : Reason) (stream : Option StreamId) (s : State) : (refuseRequest i t reason stream s).link = s.link := by simp [refuseRequest]
@[simp] theorem refuseRequest_pending (i : BitVec 5) (t : Byte) (reason : Reason) (stream : Option StreamId) (s : State) : (refuseRequest i t reason stream s).pending = s.pending := by simp [refuseRequest]

end Sys2Proof.Machine
end

