-- ==== Sys2Proof/Laws/Admission.lean ====
section
/-! SUPPORT. What each operation of Machine/Admission.lean leaves unchanged: one lemma for each field. -/
namespace Sys2Proof.Machine
open Sys2Proof

@[simp] theorem acceptPass_streams (r : UpRequest) (s : State) : (acceptPass r s).streams = s.streams := rfl
@[simp] theorem acceptPass_port (r : UpRequest) (s : State) : (acceptPass r s).port = s.port := rfl
@[simp] theorem acceptPass_dp (r : UpRequest) (s : State) : (acceptPass r s).dp = s.dp := rfl
@[simp] theorem acceptPass_active (r : UpRequest) (s : State) : (acceptPass r s).active = s.active := rfl
@[simp] theorem acceptPass_staged (r : UpRequest) (s : State) : (acceptPass r s).staged = s.staged := rfl
@[simp] theorem acceptPass_settings (r : UpRequest) (s : State) : (acceptPass r s).settings = s.settings := rfl
@[simp] theorem acceptPass_timer (r : UpRequest) (s : State) : (acceptPass r s).timer = s.timer := rfl
@[simp] theorem acceptPass_engine (r : UpRequest) (s : State) : (acceptPass r s).engine = s.engine := rfl
@[simp] theorem acceptPass_table (r : UpRequest) (s : State) : (acceptPass r s).table = s.table := rfl
@[simp] theorem acceptPass_events (r : UpRequest) (s : State) : (acceptPass r s).events = s.events := rfl
@[simp] theorem acceptPass_stats (r : UpRequest) (s : State) : (acceptPass r s).stats = s.stats := rfl
@[simp] theorem acceptPass_ctl (r : UpRequest) (s : State) : (acceptPass r s).ctl = s.ctl := rfl
@[simp] theorem acceptPass_link (r : UpRequest) (s : State) : (acceptPass r s).link = s.link := rfl
@[simp] theorem acceptPass_pending (r : UpRequest) (s : State) : (acceptPass r s).pending = s.pending := rfl
@[simp] theorem acceptStream_streams (k : StreamId) (r : UpRequest) (s : State) : (acceptStream k r s).streams = s.streams := rfl
@[simp] theorem acceptStream_port (k : StreamId) (r : UpRequest) (s : State) : (acceptStream k r s).port = s.port := rfl
@[simp] theorem acceptStream_dp (k : StreamId) (r : UpRequest) (s : State) : (acceptStream k r s).dp = s.dp := rfl
@[simp] theorem acceptStream_active (k : StreamId) (r : UpRequest) (s : State) : (acceptStream k r s).active = s.active := rfl
@[simp] theorem acceptStream_staged (k : StreamId) (r : UpRequest) (s : State) : (acceptStream k r s).staged = s.staged := rfl
@[simp] theorem acceptStream_settings (k : StreamId) (r : UpRequest) (s : State) : (acceptStream k r s).settings = s.settings := rfl
@[simp] theorem acceptStream_timer (k : StreamId) (r : UpRequest) (s : State) : (acceptStream k r s).timer = s.timer := rfl
@[simp] theorem acceptStream_table (k : StreamId) (r : UpRequest) (s : State) : (acceptStream k r s).table = s.table := rfl
@[simp] theorem acceptStream_events (k : StreamId) (r : UpRequest) (s : State) : (acceptStream k r s).events = s.events := rfl
@[simp] theorem acceptStream_ctl (k : StreamId) (r : UpRequest) (s : State) : (acceptStream k r s).ctl = s.ctl := rfl
@[simp] theorem acceptStream_link (k : StreamId) (r : UpRequest) (s : State) : (acceptStream k r s).link = s.link := rfl
@[simp] theorem acceptStream_pending (k : StreamId) (r : UpRequest) (s : State) : (acceptStream k r s).pending = s.pending := rfl
@[simp] theorem evaluate_dp (r : UpRequest) (s : State) : (evaluate r s).dp = s.dp := by unfold evaluate; split <;> simp
@[simp] theorem evaluate_active (r : UpRequest) (s : State) : (evaluate r s).active = s.active := by unfold evaluate; split <;> simp
@[simp] theorem evaluate_staged (r : UpRequest) (s : State) : (evaluate r s).staged = s.staged := by unfold evaluate; split <;> simp
@[simp] theorem evaluate_settings (r : UpRequest) (s : State) : (evaluate r s).settings = s.settings := by unfold evaluate; split <;> simp
@[simp] theorem evaluate_timer (r : UpRequest) (s : State) : (evaluate r s).timer = s.timer := by unfold evaluate; split <;> simp
@[simp] theorem evaluate_table (r : UpRequest) (s : State) : (evaluate r s).table = s.table := by unfold evaluate; split <;> simp
@[simp] theorem evaluate_ctl (r : UpRequest) (s : State) : (evaluate r s).ctl = s.ctl := by unfold evaluate; split <;> simp
@[simp] theorem evaluate_link (r : UpRequest) (s : State) : (evaluate r s).link = s.link := by unfold evaluate; split <;> simp
@[simp] theorem evaluate_pending (r : UpRequest) (s : State) : (evaluate r s).pending = s.pending := by unfold evaluate; split <;> simp
@[simp] theorem reevaluate_dp (s : State) : (reevaluate s).dp = s.dp := by unfold reevaluate; split <;> simp
@[simp] theorem reevaluate_active (s : State) : (reevaluate s).active = s.active := by unfold reevaluate; split <;> simp
@[simp] theorem reevaluate_staged (s : State) : (reevaluate s).staged = s.staged := by unfold reevaluate; split <;> simp
@[simp] theorem reevaluate_settings (s : State) : (reevaluate s).settings = s.settings := by unfold reevaluate; split <;> simp
@[simp] theorem reevaluate_timer (s : State) : (reevaluate s).timer = s.timer := by unfold reevaluate; split <;> simp
@[simp] theorem reevaluate_table (s : State) : (reevaluate s).table = s.table := by unfold reevaluate; split <;> simp
@[simp] theorem reevaluate_ctl (s : State) : (reevaluate s).ctl = s.ctl := by unfold reevaluate; split <;> simp
@[simp] theorem reevaluate_link (s : State) : (reevaluate s).link = s.link := by unfold reevaluate; split <;> simp
@[simp] theorem reevaluate_pending (s : State) : (reevaluate s).pending = s.pending := by unfold reevaluate; split <;> simp
@[simp] theorem cross_port (k : StreamId) (d : Descriptor) (s : State) : (cross k d s).port = s.port := by unfold cross; split <;> simp
@[simp] theorem cross_dp (k : StreamId) (d : Descriptor) (s : State) : (cross k d s).dp = s.dp := by unfold cross; split <;> simp
@[simp] theorem cross_active (k : StreamId) (d : Descriptor) (s : State) : (cross k d s).active = s.active := by unfold cross; split <;> simp
@[simp] theorem cross_staged (k : StreamId) (d : Descriptor) (s : State) : (cross k d s).staged = s.staged := by unfold cross; split <;> simp
@[simp] theorem cross_settings (k : StreamId) (d : Descriptor) (s : State) : (cross k d s).settings = s.settings := by unfold cross; split <;> simp
@[simp] theorem cross_timer (k : StreamId) (d : Descriptor) (s : State) : (cross k d s).timer = s.timer := by unfold cross; split <;> simp
@[simp] theorem cross_engine (k : StreamId) (d : Descriptor) (s : State) : (cross k d s).engine = s.engine := by unfold cross; split <;> simp
@[simp] theorem cross_table (k : StreamId) (d : Descriptor) (s : State) : (cross k d s).table = s.table := by unfold cross; split <;> simp
@[simp] theorem cross_ctl (k : StreamId) (d : Descriptor) (s : State) : (cross k d s).ctl = s.ctl := by unfold cross; split <;> simp
@[simp] theorem cross_link (k : StreamId) (d : Descriptor) (s : State) : (cross k d s).link = s.link := by unfold cross; split <;> simp
@[simp] theorem cross_pending (k : StreamId) (d : Descriptor) (s : State) : (cross k d s).pending = s.pending := by unfold cross; split <;> simp
@[simp] theorem crossOldest_port (s : State) : (crossOldest s).port = s.port := by unfold crossOldest; split <;> simp
@[simp] theorem crossOldest_dp (s : State) : (crossOldest s).dp = s.dp := by unfold crossOldest; split <;> simp
@[simp] theorem crossOldest_active (s : State) : (crossOldest s).active = s.active := by unfold crossOldest; split <;> simp
@[simp] theorem crossOldest_staged (s : State) : (crossOldest s).staged = s.staged := by unfold crossOldest; split <;> simp
@[simp] theorem crossOldest_settings (s : State) : (crossOldest s).settings = s.settings := by unfold crossOldest; split <;> simp
@[simp] theorem crossOldest_timer (s : State) : (crossOldest s).timer = s.timer := by unfold crossOldest; split <;> simp
@[simp] theorem crossOldest_engine (s : State) : (crossOldest s).engine = s.engine := by unfold crossOldest; split <;> simp
@[simp] theorem crossOldest_table (s : State) : (crossOldest s).table = s.table := by unfold crossOldest; split <;> simp
@[simp] theorem crossOldest_ctl (s : State) : (crossOldest s).ctl = s.ctl := by unfold crossOldest; split <;> simp
@[simp] theorem crossOldest_link (s : State) : (crossOldest s).link = s.link := by unfold crossOldest; split <;> simp
@[simp] theorem crossOldest_pending (s : State) : (crossOldest s).pending = s.pending := by unfold crossOldest; split <;> simp
@[simp] theorem crossIn_port (k : StreamId) (s : State) : (crossIn k s).port = s.port := by unfold crossIn; split <;> simp
@[simp] theorem crossIn_dp (k : StreamId) (s : State) : (crossIn k s).dp = s.dp := by unfold crossIn; split <;> simp
@[simp] theorem crossIn_active (k : StreamId) (s : State) : (crossIn k s).active = s.active := by unfold crossIn; split <;> simp
@[simp] theorem crossIn_staged (k : StreamId) (s : State) : (crossIn k s).staged = s.staged := by unfold crossIn; split <;> simp
@[simp] theorem crossIn_settings (k : StreamId) (s : State) : (crossIn k s).settings = s.settings := by unfold crossIn; split <;> simp
@[simp] theorem crossIn_timer (k : StreamId) (s : State) : (crossIn k s).timer = s.timer := by unfold crossIn; split <;> simp
@[simp] theorem crossIn_engine (k : StreamId) (s : State) : (crossIn k s).engine = s.engine := by unfold crossIn; split <;> simp
@[simp] theorem crossIn_table (k : StreamId) (s : State) : (crossIn k s).table = s.table := by unfold crossIn; split <;> simp
@[simp] theorem crossIn_ctl (k : StreamId) (s : State) : (crossIn k s).ctl = s.ctl := by unfold crossIn; split <;> simp
@[simp] theorem crossIn_link (k : StreamId) (s : State) : (crossIn k s).link = s.link := by unfold crossIn; split <;> simp
@[simp] theorem crossIn_pending (k : StreamId) (s : State) : (crossIn k s).pending = s.pending := by unfold crossIn; split <;> simp

end Sys2Proof.Machine
end

