-- ==== Sys2Proof/Laws/Completion.lean ====
section
/-! SUPPORT. What each operation of Machine/Completion.lean leaves unchanged: one lemma for each field. -/
namespace Sys2Proof.Machine
open Sys2Proof

@[simp] theorem closeStream_store (k : StreamId) (detail : Nat) (s : State) : (closeStream k detail s).store = s.store := rfl
@[simp] theorem closeStream_port (k : StreamId) (detail : Nat) (s : State) : (closeStream k detail s).port = s.port := rfl
@[simp] theorem closeStream_dp (k : StreamId) (detail : Nat) (s : State) : (closeStream k detail s).dp = s.dp := rfl
@[simp] theorem closeStream_active (k : StreamId) (detail : Nat) (s : State) : (closeStream k detail s).active = s.active := rfl
@[simp] theorem closeStream_staged (k : StreamId) (detail : Nat) (s : State) : (closeStream k detail s).staged = s.staged := rfl
@[simp] theorem closeStream_settings (k : StreamId) (detail : Nat) (s : State) : (closeStream k detail s).settings = s.settings := rfl
@[simp] theorem closeStream_timer (k : StreamId) (detail : Nat) (s : State) : (closeStream k detail s).timer = s.timer := rfl
@[simp] theorem closeStream_engine (k : StreamId) (detail : Nat) (s : State) : (closeStream k detail s).engine = s.engine := rfl
@[simp] theorem closeStream_table (k : StreamId) (detail : Nat) (s : State) : (closeStream k detail s).table = s.table := rfl
@[simp] theorem closeStream_ctl (k : StreamId) (detail : Nat) (s : State) : (closeStream k detail s).ctl = s.ctl := rfl
@[simp] theorem closeStream_link (k : StreamId) (detail : Nat) (s : State) : (closeStream k detail s).link = s.link := rfl
@[simp] theorem closeStream_pending (k : StreamId) (detail : Nat) (s : State) : (closeStream k detail s).pending = s.pending := rfl
@[simp] theorem closeIfDrained_store (k : StreamId) (s : State) : (closeIfDrained k s).store = s.store := by unfold closeIfDrained; split <;> simp
@[simp] theorem closeIfDrained_port (k : StreamId) (s : State) : (closeIfDrained k s).port = s.port := by unfold closeIfDrained; split <;> simp
@[simp] theorem closeIfDrained_dp (k : StreamId) (s : State) : (closeIfDrained k s).dp = s.dp := by unfold closeIfDrained; split <;> simp
@[simp] theorem closeIfDrained_active (k : StreamId) (s : State) : (closeIfDrained k s).active = s.active := by unfold closeIfDrained; split <;> simp
@[simp] theorem closeIfDrained_staged (k : StreamId) (s : State) : (closeIfDrained k s).staged = s.staged := by unfold closeIfDrained; split <;> simp
@[simp] theorem closeIfDrained_settings (k : StreamId) (s : State) : (closeIfDrained k s).settings = s.settings := by unfold closeIfDrained; split <;> simp
@[simp] theorem closeIfDrained_timer (k : StreamId) (s : State) : (closeIfDrained k s).timer = s.timer := by unfold closeIfDrained; split <;> simp
@[simp] theorem closeIfDrained_engine (k : StreamId) (s : State) : (closeIfDrained k s).engine = s.engine := by unfold closeIfDrained; split <;> simp
@[simp] theorem closeIfDrained_table (k : StreamId) (s : State) : (closeIfDrained k s).table = s.table := by unfold closeIfDrained; split <;> simp
@[simp] theorem closeIfDrained_ctl (k : StreamId) (s : State) : (closeIfDrained k s).ctl = s.ctl := by unfold closeIfDrained; split <;> simp
@[simp] theorem closeIfDrained_link (k : StreamId) (s : State) : (closeIfDrained k s).link = s.link := by unfold closeIfDrained; split <;> simp
@[simp] theorem closeIfDrained_pending (k : StreamId) (s : State) : (closeIfDrained k s).pending = s.pending := by unfold closeIfDrained; split <;> simp
@[simp] theorem completeQuiesce_streams (s : State) : (completeQuiesce s).streams = s.streams := rfl
@[simp] theorem completeQuiesce_store (s : State) : (completeQuiesce s).store = s.store := rfl
@[simp] theorem completeQuiesce_port (s : State) : (completeQuiesce s).port = s.port := rfl
@[simp] theorem completeQuiesce_dp (s : State) : (completeQuiesce s).dp = s.dp := rfl
@[simp] theorem completeQuiesce_active (s : State) : (completeQuiesce s).active = s.active := rfl
@[simp] theorem completeQuiesce_staged (s : State) : (completeQuiesce s).staged = s.staged := rfl
@[simp] theorem completeQuiesce_settings (s : State) : (completeQuiesce s).settings = s.settings := rfl
@[simp] theorem completeQuiesce_timer (s : State) : (completeQuiesce s).timer = s.timer := rfl
@[simp] theorem completeQuiesce_engine (s : State) : (completeQuiesce s).engine = s.engine := rfl
@[simp] theorem completeQuiesce_table (s : State) : (completeQuiesce s).table = s.table := rfl
@[simp] theorem completeQuiesce_link (s : State) : (completeQuiesce s).link = s.link := rfl
@[simp] theorem completeQuiesce_pending (s : State) : (completeQuiesce s).pending = s.pending := rfl
@[simp] theorem quiesceIfDue_streams (s : State) : (quiesceIfDue s).streams = s.streams := by unfold quiesceIfDue; split <;> simp
@[simp] theorem quiesceIfDue_store (s : State) : (quiesceIfDue s).store = s.store := by unfold quiesceIfDue; split <;> simp
@[simp] theorem quiesceIfDue_port (s : State) : (quiesceIfDue s).port = s.port := by unfold quiesceIfDue; split <;> simp
@[simp] theorem quiesceIfDue_dp (s : State) : (quiesceIfDue s).dp = s.dp := by unfold quiesceIfDue; split <;> simp
@[simp] theorem quiesceIfDue_active (s : State) : (quiesceIfDue s).active = s.active := by unfold quiesceIfDue; split <;> simp
@[simp] theorem quiesceIfDue_staged (s : State) : (quiesceIfDue s).staged = s.staged := by unfold quiesceIfDue; split <;> simp
@[simp] theorem quiesceIfDue_settings (s : State) : (quiesceIfDue s).settings = s.settings := by unfold quiesceIfDue; split <;> simp
@[simp] theorem quiesceIfDue_timer (s : State) : (quiesceIfDue s).timer = s.timer := by unfold quiesceIfDue; split <;> simp
@[simp] theorem quiesceIfDue_engine (s : State) : (quiesceIfDue s).engine = s.engine := by unfold quiesceIfDue; split <;> simp
@[simp] theorem quiesceIfDue_table (s : State) : (quiesceIfDue s).table = s.table := by unfold quiesceIfDue; split <;> simp
@[simp] theorem quiesceIfDue_link (s : State) : (quiesceIfDue s).link = s.link := by unfold quiesceIfDue; split <;> simp
@[simp] theorem quiesceIfDue_pending (s : State) : (quiesceIfDue s).pending = s.pending := by unfold quiesceIfDue; split <;> simp
@[simp] theorem closeOf_store (a : Option StreamId) (s : State) : (closeOf a s).store = s.store := by unfold closeOf; split <;> simp
@[simp] theorem closeOf_port (a : Option StreamId) (s : State) : (closeOf a s).port = s.port := by unfold closeOf; split <;> simp
@[simp] theorem closeOf_dp (a : Option StreamId) (s : State) : (closeOf a s).dp = s.dp := by unfold closeOf; split <;> simp
@[simp] theorem closeOf_active (a : Option StreamId) (s : State) : (closeOf a s).active = s.active := by unfold closeOf; split <;> simp
@[simp] theorem closeOf_staged (a : Option StreamId) (s : State) : (closeOf a s).staged = s.staged := by unfold closeOf; split <;> simp
@[simp] theorem closeOf_settings (a : Option StreamId) (s : State) : (closeOf a s).settings = s.settings := by unfold closeOf; split <;> simp
@[simp] theorem closeOf_timer (a : Option StreamId) (s : State) : (closeOf a s).timer = s.timer := by unfold closeOf; split <;> simp
@[simp] theorem closeOf_engine (a : Option StreamId) (s : State) : (closeOf a s).engine = s.engine := by unfold closeOf; split <;> simp
@[simp] theorem closeOf_table (a : Option StreamId) (s : State) : (closeOf a s).table = s.table := by unfold closeOf; split <;> simp
@[simp] theorem closeOf_ctl (a : Option StreamId) (s : State) : (closeOf a s).ctl = s.ctl := by unfold closeOf; split <;> simp
@[simp] theorem closeOf_link (a : Option StreamId) (s : State) : (closeOf a s).link = s.link := by unfold closeOf; split <;> simp
@[simp] theorem closeOf_pending (a : Option StreamId) (s : State) : (closeOf a s).pending = s.pending := by unfold closeOf; split <;> simp
@[simp] theorem settleCounts_dp (a : Option StreamId) (s : State) : (settleCounts a s).dp = s.dp := by unfold settleCounts; dsimp only; ((repeat' split) <;> simp)
@[simp] theorem settleCounts_active (a : Option StreamId) (s : State) : (settleCounts a s).active = s.active := by unfold settleCounts; dsimp only; ((repeat' split) <;> simp)
@[simp] theorem settleCounts_staged (a : Option StreamId) (s : State) : (settleCounts a s).staged = s.staged := by unfold settleCounts; dsimp only; ((repeat' split) <;> simp)
@[simp] theorem settleCounts_settings (a : Option StreamId) (s : State) : (settleCounts a s).settings = s.settings := by unfold settleCounts; dsimp only; ((repeat' split) <;> simp)
@[simp] theorem settleCounts_timer (a : Option StreamId) (s : State) : (settleCounts a s).timer = s.timer := by unfold settleCounts; dsimp only; ((repeat' split) <;> simp)
@[simp] theorem settleCounts_table (a : Option StreamId) (s : State) : (settleCounts a s).table = s.table := by unfold settleCounts; dsimp only; ((repeat' split) <;> simp)
@[simp] theorem settleCounts_link (a : Option StreamId) (s : State) : (settleCounts a s).link = s.link := by unfold settleCounts; dsimp only; ((repeat' split) <;> simp)
@[simp] theorem settleCounts_pending (a : Option StreamId) (s : State) : (settleCounts a s).pending = s.pending := by unfold settleCounts; dsimp only; ((repeat' split) <;> simp)

end Sys2Proof.Machine
end

