-- ==== Sys2Proof/Laws/Outstanding.lean ====
section
/-! SUPPORT. What each operation of Machine/Outstanding.lean leaves unchanged: one lemma for each field. -/
namespace Sys2Proof.Machine
open Sys2Proof

@[simp] theorem updStatsOf_streams (a : Attribution) (f : StreamStats → StreamStats) (s : State) : (updStatsOf a f s).streams = s.streams := by unfold updStatsOf; split <;> simp
@[simp] theorem updStatsOf_store (a : Attribution) (f : StreamStats → StreamStats) (s : State) : (updStatsOf a f s).store = s.store := by unfold updStatsOf; split <;> simp
@[simp] theorem updStatsOf_port (a : Attribution) (f : StreamStats → StreamStats) (s : State) : (updStatsOf a f s).port = s.port := by unfold updStatsOf; split <;> simp
@[simp] theorem updStatsOf_dp (a : Attribution) (f : StreamStats → StreamStats) (s : State) : (updStatsOf a f s).dp = s.dp := by unfold updStatsOf; split <;> simp
@[simp] theorem updStatsOf_active (a : Attribution) (f : StreamStats → StreamStats) (s : State) : (updStatsOf a f s).active = s.active := by unfold updStatsOf; split <;> simp
@[simp] theorem updStatsOf_staged (a : Attribution) (f : StreamStats → StreamStats) (s : State) : (updStatsOf a f s).staged = s.staged := by unfold updStatsOf; split <;> simp
@[simp] theorem updStatsOf_settings (a : Attribution) (f : StreamStats → StreamStats) (s : State) : (updStatsOf a f s).settings = s.settings := by unfold updStatsOf; split <;> simp
@[simp] theorem updStatsOf_timer (a : Attribution) (f : StreamStats → StreamStats) (s : State) : (updStatsOf a f s).timer = s.timer := by unfold updStatsOf; split <;> simp
@[simp] theorem updStatsOf_engine (a : Attribution) (f : StreamStats → StreamStats) (s : State) : (updStatsOf a f s).engine = s.engine := by unfold updStatsOf; split <;> simp
@[simp] theorem updStatsOf_table (a : Attribution) (f : StreamStats → StreamStats) (s : State) : (updStatsOf a f s).table = s.table := by unfold updStatsOf; split <;> simp
@[simp] theorem updStatsOf_events (a : Attribution) (f : StreamStats → StreamStats) (s : State) : (updStatsOf a f s).events = s.events := by unfold updStatsOf; split <;> simp
@[simp] theorem updStatsOf_ctl (a : Attribution) (f : StreamStats → StreamStats) (s : State) : (updStatsOf a f s).ctl = s.ctl := by unfold updStatsOf; split <;> simp
@[simp] theorem updStatsOf_link (a : Attribution) (f : StreamStats → StreamStats) (s : State) : (updStatsOf a f s).link = s.link := by unfold updStatsOf; split <;> simp
@[simp] theorem updStatsOf_pending (a : Attribution) (f : StreamStats → StreamStats) (s : State) : (updStatsOf a f s).pending = s.pending := by unfold updStatsOf; split <;> simp
@[simp] theorem reportError_streams (t : Tag) (h : Held) (s : State) : (reportError t h s).streams = s.streams := by simp [reportError]
@[simp] theorem reportError_store (t : Tag) (h : Held) (s : State) : (reportError t h s).store = s.store := by simp [reportError]
@[simp] theorem reportError_port (t : Tag) (h : Held) (s : State) : (reportError t h s).port = s.port := by simp [reportError]
@[simp] theorem reportError_dp (t : Tag) (h : Held) (s : State) : (reportError t h s).dp = s.dp := by simp [reportError]
@[simp] theorem reportError_active (t : Tag) (h : Held) (s : State) : (reportError t h s).active = s.active := by simp [reportError]
@[simp] theorem reportError_staged (t : Tag) (h : Held) (s : State) : (reportError t h s).staged = s.staged := by simp [reportError]
@[simp] theorem reportError_settings (t : Tag) (h : Held) (s : State) : (reportError t h s).settings = s.settings := by simp [reportError]
@[simp] theorem reportError_timer (t : Tag) (h : Held) (s : State) : (reportError t h s).timer = s.timer := by simp [reportError]
@[simp] theorem reportError_engine (t : Tag) (h : Held) (s : State) : (reportError t h s).engine = s.engine := by simp [reportError]
@[simp] theorem reportError_table (t : Tag) (h : Held) (s : State) : (reportError t h s).table = s.table := by simp [reportError]
@[simp] theorem reportError_ctl (t : Tag) (h : Held) (s : State) : (reportError t h s).ctl = s.ctl := by simp [reportError]
@[simp] theorem reportError_link (t : Tag) (h : Held) (s : State) : (reportError t h s).link = s.link := by simp [reportError]
@[simp] theorem reportError_pending (t : Tag) (h : Held) (s : State) : (reportError t h s).pending = s.pending := by simp [reportError]
@[simp] theorem forward_dp (t : Tag) (h : Held) (r : DownResponse) (s : State) : (forward t h r s).dp = s.dp := by unfold forward; split <;> simp
@[simp] theorem forward_active (t : Tag) (h : Held) (r : DownResponse) (s : State) : (forward t h r s).active = s.active := by unfold forward; split <;> simp
@[simp] theorem forward_staged (t : Tag) (h : Held) (r : DownResponse) (s : State) : (forward t h r s).staged = s.staged := by unfold forward; split <;> simp
@[simp] theorem forward_settings (t : Tag) (h : Held) (r : DownResponse) (s : State) : (forward t h r s).settings = s.settings := by unfold forward; split <;> simp
@[simp] theorem forward_timer (t : Tag) (h : Held) (r : DownResponse) (s : State) : (forward t h r s).timer = s.timer := by unfold forward; split <;> simp
@[simp] theorem forward_link (t : Tag) (h : Held) (r : DownResponse) (s : State) : (forward t h r s).link = s.link := by unfold forward; split <;> simp
@[simp] theorem forward_pending (t : Tag) (h : Held) (r : DownResponse) (s : State) : (forward t h r s).pending = s.pending := by unfold forward; split <;> simp
@[simp] theorem lateResponse_streams (t : Tag) (h : Held) (s : State) : (lateResponse t h s).streams = s.streams := rfl
@[simp] theorem lateResponse_store (t : Tag) (h : Held) (s : State) : (lateResponse t h s).store = s.store := rfl
@[simp] theorem lateResponse_port (t : Tag) (h : Held) (s : State) : (lateResponse t h s).port = s.port := rfl
@[simp] theorem lateResponse_dp (t : Tag) (h : Held) (s : State) : (lateResponse t h s).dp = s.dp := rfl
@[simp] theorem lateResponse_active (t : Tag) (h : Held) (s : State) : (lateResponse t h s).active = s.active := rfl
@[simp] theorem lateResponse_staged (t : Tag) (h : Held) (s : State) : (lateResponse t h s).staged = s.staged := rfl
@[simp] theorem lateResponse_settings (t : Tag) (h : Held) (s : State) : (lateResponse t h s).settings = s.settings := rfl
@[simp] theorem lateResponse_timer (t : Tag) (h : Held) (s : State) : (lateResponse t h s).timer = s.timer := rfl
@[simp] theorem lateResponse_engine (t : Tag) (h : Held) (s : State) : (lateResponse t h s).engine = s.engine := rfl
@[simp] theorem lateResponse_ctl (t : Tag) (h : Held) (s : State) : (lateResponse t h s).ctl = s.ctl := rfl
@[simp] theorem lateResponse_link (t : Tag) (h : Held) (s : State) : (lateResponse t h s).link = s.link := rfl
@[simp] theorem lateResponse_pending (t : Tag) (h : Held) (s : State) : (lateResponse t h s).pending = s.pending := rfl
@[simp] theorem unexpectedResponse_streams (tag : BitVec 6) (s : State) : (unexpectedResponse tag s).streams = s.streams := rfl
@[simp] theorem unexpectedResponse_store (tag : BitVec 6) (s : State) : (unexpectedResponse tag s).store = s.store := rfl
@[simp] theorem unexpectedResponse_port (tag : BitVec 6) (s : State) : (unexpectedResponse tag s).port = s.port := rfl
@[simp] theorem unexpectedResponse_dp (tag : BitVec 6) (s : State) : (unexpectedResponse tag s).dp = s.dp := rfl
@[simp] theorem unexpectedResponse_active (tag : BitVec 6) (s : State) : (unexpectedResponse tag s).active = s.active := rfl
@[simp] theorem unexpectedResponse_staged (tag : BitVec 6) (s : State) : (unexpectedResponse tag s).staged = s.staged := rfl
@[simp] theorem unexpectedResponse_settings (tag : BitVec 6) (s : State) : (unexpectedResponse tag s).settings = s.settings := rfl
@[simp] theorem unexpectedResponse_timer (tag : BitVec 6) (s : State) : (unexpectedResponse tag s).timer = s.timer := rfl
@[simp] theorem unexpectedResponse_engine (tag : BitVec 6) (s : State) : (unexpectedResponse tag s).engine = s.engine := rfl
@[simp] theorem unexpectedResponse_table (tag : BitVec 6) (s : State) : (unexpectedResponse tag s).table = s.table := rfl
@[simp] theorem unexpectedResponse_ctl (tag : BitVec 6) (s : State) : (unexpectedResponse tag s).ctl = s.ctl := rfl
@[simp] theorem unexpectedResponse_link (tag : BitVec 6) (s : State) : (unexpectedResponse tag s).link = s.link := rfl
@[simp] theorem unexpectedResponse_pending (tag : BitVec 6) (s : State) : (unexpectedResponse tag s).pending = s.pending := rfl
@[simp] theorem expire_dp (t : Tag) (h : Held) (s : State) : (expire t h s).dp = s.dp := by simp [expire]
@[simp] theorem expire_active (t : Tag) (h : Held) (s : State) : (expire t h s).active = s.active := by simp [expire]
@[simp] theorem expire_staged (t : Tag) (h : Held) (s : State) : (expire t h s).staged = s.staged := by simp [expire]
@[simp] theorem expire_settings (t : Tag) (h : Held) (s : State) : (expire t h s).settings = s.settings := by simp [expire]
@[simp] theorem expire_timer (t : Tag) (h : Held) (s : State) : (expire t h s).timer = s.timer := by simp [expire]
@[simp] theorem expire_link (t : Tag) (h : Held) (s : State) : (expire t h s).link = s.link := by simp [expire]
@[simp] theorem expire_pending (t : Tag) (h : Held) (s : State) : (expire t h s).pending = s.pending := by simp [expire]
@[simp] theorem expireIfDue_dp (t : Tag) (s : State) : (expireIfDue t s).dp = s.dp := by unfold expireIfDue; split <;> simp
@[simp] theorem expireIfDue_active (t : Tag) (s : State) : (expireIfDue t s).active = s.active := by unfold expireIfDue; split <;> simp
@[simp] theorem expireIfDue_staged (t : Tag) (s : State) : (expireIfDue t s).staged = s.staged := by unfold expireIfDue; split <;> simp
@[simp] theorem expireIfDue_settings (t : Tag) (s : State) : (expireIfDue t s).settings = s.settings := by unfold expireIfDue; split <;> simp
@[simp] theorem expireIfDue_timer (t : Tag) (s : State) : (expireIfDue t s).timer = s.timer := by unfold expireIfDue; split <;> simp
@[simp] theorem expireIfDue_link (t : Tag) (s : State) : (expireIfDue t s).link = s.link := by unfold expireIfDue; split <;> simp
@[simp] theorem expireIfDue_pending (t : Tag) (s : State) : (expireIfDue t s).pending = s.pending := by unfold expireIfDue; split <;> simp

end Sys2Proof.Machine
end

