-- ==== Sys2Proof/Laws/Timing.lean ====
section
/-! SUPPORT. What each operation of Machine/Timing.lean leaves unchanged: one lemma for each field. -/
namespace Sys2Proof.Machine
open Sys2Proof

@[simp] theorem beginSlot_streams (k : SlotId) (s : State) : (beginSlot k s).streams = s.streams := rfl
@[simp] theorem beginSlot_store (k : SlotId) (s : State) : (beginSlot k s).store = s.store := rfl
@[simp] theorem beginSlot_port (k : SlotId) (s : State) : (beginSlot k s).port = s.port := rfl
@[simp] theorem beginSlot_dp (k : SlotId) (s : State) : (beginSlot k s).dp = s.dp := rfl
@[simp] theorem beginSlot_active (k : SlotId) (s : State) : (beginSlot k s).active = s.active := rfl
@[simp] theorem beginSlot_staged (k : SlotId) (s : State) : (beginSlot k s).staged = s.staged := rfl
@[simp] theorem beginSlot_settings (k : SlotId) (s : State) : (beginSlot k s).settings = s.settings := rfl
@[simp] theorem beginSlot_table (k : SlotId) (s : State) : (beginSlot k s).table = s.table := rfl
@[simp] theorem beginSlot_events (k : SlotId) (s : State) : (beginSlot k s).events = s.events := rfl
@[simp] theorem beginSlot_stats (k : SlotId) (s : State) : (beginSlot k s).stats = s.stats := rfl
@[simp] theorem beginSlot_ctl (k : SlotId) (s : State) : (beginSlot k s).ctl = s.ctl := rfl
@[simp] theorem beginSlot_link (k : SlotId) (s : State) : (beginSlot k s).link = s.link := rfl
@[simp] theorem beginSlot_pending (k : SlotId) (s : State) : (beginSlot k s).pending = s.pending := rfl
@[simp] theorem recordHeld_store (o : SlotOutcome) (k : StreamId) (s : State) : (recordHeld o k s).store = s.store := by unfold recordHeld; split <;> [simp; (split <;> simp)]
@[simp] theorem recordHeld_port (o : SlotOutcome) (k : StreamId) (s : State) : (recordHeld o k s).port = s.port := by unfold recordHeld; split <;> [simp; (split <;> simp)]
@[simp] theorem recordHeld_dp (o : SlotOutcome) (k : StreamId) (s : State) : (recordHeld o k s).dp = s.dp := by unfold recordHeld; split <;> [simp; (split <;> simp)]
@[simp] theorem recordHeld_active (o : SlotOutcome) (k : StreamId) (s : State) : (recordHeld o k s).active = s.active := by unfold recordHeld; split <;> [simp; (split <;> simp)]
@[simp] theorem recordHeld_staged (o : SlotOutcome) (k : StreamId) (s : State) : (recordHeld o k s).staged = s.staged := by unfold recordHeld; split <;> [simp; (split <;> simp)]
@[simp] theorem recordHeld_settings (o : SlotOutcome) (k : StreamId) (s : State) : (recordHeld o k s).settings = s.settings := by unfold recordHeld; split <;> [simp; (split <;> simp)]
@[simp] theorem recordHeld_timer (o : SlotOutcome) (k : StreamId) (s : State) : (recordHeld o k s).timer = s.timer := by unfold recordHeld; split <;> [simp; (split <;> simp)]
@[simp] theorem recordHeld_engine (o : SlotOutcome) (k : StreamId) (s : State) : (recordHeld o k s).engine = s.engine := by unfold recordHeld; split <;> [simp; (split <;> simp)]
@[simp] theorem recordHeld_table (o : SlotOutcome) (k : StreamId) (s : State) : (recordHeld o k s).table = s.table := by unfold recordHeld; split <;> [simp; (split <;> simp)]
@[simp] theorem recordHeld_ctl (o : SlotOutcome) (k : StreamId) (s : State) : (recordHeld o k s).ctl = s.ctl := by unfold recordHeld; split <;> [simp; (split <;> simp)]
@[simp] theorem recordHeld_link (o : SlotOutcome) (k : StreamId) (s : State) : (recordHeld o k s).link = s.link := by unfold recordHeld; split <;> [simp; (split <;> simp)]
@[simp] theorem recordHeld_pending (o : SlotOutcome) (k : StreamId) (s : State) : (recordHeld o k s).pending = s.pending := by unfold recordHeld; split <;> [simp; (split <;> simp)]
@[simp] theorem classifySlot_store (s : State) : (classifySlot s).store = s.store := by unfold classifySlot; split <;> [simp; (split <;> simp)]
@[simp] theorem classifySlot_port (s : State) : (classifySlot s).port = s.port := by unfold classifySlot; split <;> [simp; (split <;> simp)]
@[simp] theorem classifySlot_dp (s : State) : (classifySlot s).dp = s.dp := by unfold classifySlot; split <;> [simp; (split <;> simp)]
@[simp] theorem classifySlot_active (s : State) : (classifySlot s).active = s.active := by unfold classifySlot; split <;> [simp; (split <;> simp)]
@[simp] theorem classifySlot_staged (s : State) : (classifySlot s).staged = s.staged := by unfold classifySlot; split <;> [simp; (split <;> simp)]
@[simp] theorem classifySlot_settings (s : State) : (classifySlot s).settings = s.settings := by unfold classifySlot; split <;> [simp; (split <;> simp)]
@[simp] theorem classifySlot_timer (s : State) : (classifySlot s).timer = s.timer := by unfold classifySlot; split <;> [simp; (split <;> simp)]
@[simp] theorem classifySlot_table (s : State) : (classifySlot s).table = s.table := by unfold classifySlot; split <;> [simp; (split <;> simp)]
@[simp] theorem classifySlot_ctl (s : State) : (classifySlot s).ctl = s.ctl := by unfold classifySlot; split <;> [simp; (split <;> simp)]
@[simp] theorem classifySlot_link (s : State) : (classifySlot s).link = s.link := by unfold classifySlot; split <;> [simp; (split <;> simp)]
@[simp] theorem classifySlot_pending (s : State) : (classifySlot s).pending = s.pending := by unfold classifySlot; split <;> [simp; (split <;> simp)]
@[simp] theorem completeCommit_streams (s : State) : (completeCommit s).streams = s.streams := rfl
@[simp] theorem completeCommit_store (s : State) : (completeCommit s).store = s.store := rfl
@[simp] theorem completeCommit_port (s : State) : (completeCommit s).port = s.port := rfl
@[simp] theorem completeCommit_dp (s : State) : (completeCommit s).dp = s.dp := rfl
@[simp] theorem completeCommit_staged (s : State) : (completeCommit s).staged = s.staged := rfl
@[simp] theorem completeCommit_settings (s : State) : (completeCommit s).settings = s.settings := rfl
@[simp] theorem completeCommit_timer (s : State) : (completeCommit s).timer = s.timer := rfl
@[simp] theorem completeCommit_engine (s : State) : (completeCommit s).engine = s.engine := rfl
@[simp] theorem completeCommit_table (s : State) : (completeCommit s).table = s.table := rfl
@[simp] theorem completeCommit_link (s : State) : (completeCommit s).link = s.link := rfl
@[simp] theorem completeCommit_pending (s : State) : (completeCommit s).pending = s.pending := rfl
@[simp] theorem commitAtFrame_streams (s : State) : (commitAtFrame s).streams = s.streams := by unfold commitAtFrame; split <;> simp
@[simp] theorem commitAtFrame_store (s : State) : (commitAtFrame s).store = s.store := by unfold commitAtFrame; split <;> simp
@[simp] theorem commitAtFrame_port (s : State) : (commitAtFrame s).port = s.port := by unfold commitAtFrame; split <;> simp
@[simp] theorem commitAtFrame_dp (s : State) : (commitAtFrame s).dp = s.dp := by unfold commitAtFrame; split <;> simp
@[simp] theorem commitAtFrame_staged (s : State) : (commitAtFrame s).staged = s.staged := by unfold commitAtFrame; split <;> simp
@[simp] theorem commitAtFrame_settings (s : State) : (commitAtFrame s).settings = s.settings := by unfold commitAtFrame; split <;> simp
@[simp] theorem commitAtFrame_timer (s : State) : (commitAtFrame s).timer = s.timer := by unfold commitAtFrame; split <;> simp
@[simp] theorem commitAtFrame_engine (s : State) : (commitAtFrame s).engine = s.engine := by unfold commitAtFrame; split <;> simp
@[simp] theorem commitAtFrame_table (s : State) : (commitAtFrame s).table = s.table := by unfold commitAtFrame; split <;> simp
@[simp] theorem commitAtFrame_link (s : State) : (commitAtFrame s).link = s.link := by unfold commitAtFrame; split <;> simp
@[simp] theorem commitAtFrame_pending (s : State) : (commitAtFrame s).pending = s.pending := by unfold commitAtFrame; split <;> simp
@[simp] theorem renewCredits_store (s : State) : (renewCredits s).store = s.store := rfl
@[simp] theorem renewCredits_port (s : State) : (renewCredits s).port = s.port := rfl
@[simp] theorem renewCredits_dp (s : State) : (renewCredits s).dp = s.dp := rfl
@[simp] theorem renewCredits_active (s : State) : (renewCredits s).active = s.active := rfl
@[simp] theorem renewCredits_staged (s : State) : (renewCredits s).staged = s.staged := rfl
@[simp] theorem renewCredits_settings (s : State) : (renewCredits s).settings = s.settings := rfl
@[simp] theorem renewCredits_timer (s : State) : (renewCredits s).timer = s.timer := rfl
@[simp] theorem renewCredits_engine (s : State) : (renewCredits s).engine = s.engine := rfl
@[simp] theorem renewCredits_table (s : State) : (renewCredits s).table = s.table := rfl
@[simp] theorem renewCredits_events (s : State) : (renewCredits s).events = s.events := rfl
@[simp] theorem renewCredits_stats (s : State) : (renewCredits s).stats = s.stats := rfl
@[simp] theorem renewCredits_ctl (s : State) : (renewCredits s).ctl = s.ctl := rfl
@[simp] theorem renewCredits_link (s : State) : (renewCredits s).link = s.link := rfl
@[simp] theorem renewCredits_pending (s : State) : (renewCredits s).pending = s.pending := rfl
@[simp] theorem frameStart_store (loss : Option (EventKind × Nat)) (s : State) : (frameStart loss s).store = s.store := by unfold frameStart; split <;> simp
@[simp] theorem frameStart_port (loss : Option (EventKind × Nat)) (s : State) : (frameStart loss s).port = s.port := by unfold frameStart; split <;> simp
@[simp] theorem frameStart_dp (loss : Option (EventKind × Nat)) (s : State) : (frameStart loss s).dp = s.dp := by unfold frameStart; split <;> simp
@[simp] theorem frameStart_staged (loss : Option (EventKind × Nat)) (s : State) : (frameStart loss s).staged = s.staged := by unfold frameStart; split <;> simp
@[simp] theorem frameStart_settings (loss : Option (EventKind × Nat)) (s : State) : (frameStart loss s).settings = s.settings := by unfold frameStart; split <;> simp
@[simp] theorem frameStart_table (loss : Option (EventKind × Nat)) (s : State) : (frameStart loss s).table = s.table := by unfold frameStart; split <;> simp
@[simp] theorem frameStart_link (loss : Option (EventKind × Nat)) (s : State) : (frameStart loss s).link = s.link := by unfold frameStart; split <;> simp
@[simp] theorem frameStart_pending (loss : Option (EventKind × Nat)) (s : State) : (frameStart loss s).pending = s.pending := by unfold frameStart; split <;> simp
@[simp] theorem startTimer_store (s : State) : (startTimer s).store = s.store := by unfold startTimer; split <;> simp
@[simp] theorem startTimer_port (s : State) : (startTimer s).port = s.port := by unfold startTimer; split <;> simp
@[simp] theorem startTimer_dp (s : State) : (startTimer s).dp = s.dp := by unfold startTimer; split <;> simp
@[simp] theorem startTimer_staged (s : State) : (startTimer s).staged = s.staged := by unfold startTimer; split <;> simp
@[simp] theorem startTimer_settings (s : State) : (startTimer s).settings = s.settings := by unfold startTimer; split <;> simp
@[simp] theorem startTimer_table (s : State) : (startTimer s).table = s.table := by unfold startTimer; split <;> simp
@[simp] theorem startTimer_link (s : State) : (startTimer s).link = s.link := by unfold startTimer; split <;> simp
@[simp] theorem startTimer_pending (s : State) : (startTimer s).pending = s.pending := by unfold startTimer; split <;> simp
@[simp] theorem stopTimer_streams (s : State) : (stopTimer s).streams = s.streams := rfl
@[simp] theorem stopTimer_store (s : State) : (stopTimer s).store = s.store := rfl
@[simp] theorem stopTimer_port (s : State) : (stopTimer s).port = s.port := rfl
@[simp] theorem stopTimer_dp (s : State) : (stopTimer s).dp = s.dp := rfl
@[simp] theorem stopTimer_active (s : State) : (stopTimer s).active = s.active := rfl
@[simp] theorem stopTimer_staged (s : State) : (stopTimer s).staged = s.staged := rfl
@[simp] theorem stopTimer_settings (s : State) : (stopTimer s).settings = s.settings := rfl
@[simp] theorem stopTimer_table (s : State) : (stopTimer s).table = s.table := rfl
@[simp] theorem stopTimer_events (s : State) : (stopTimer s).events = s.events := rfl
@[simp] theorem stopTimer_stats (s : State) : (stopTimer s).stats = s.stats := rfl
@[simp] theorem stopTimer_ctl (s : State) : (stopTimer s).ctl = s.ctl := rfl
@[simp] theorem stopTimer_link (s : State) : (stopTimer s).link = s.link := rfl
@[simp] theorem stopTimer_pending (s : State) : (stopTimer s).pending = s.pending := rfl
@[simp] theorem endFrame_dp (s : State) : (endFrame s).dp = s.dp := by unfold endFrame; split <;> simp
@[simp] theorem endFrame_staged (s : State) : (endFrame s).staged = s.staged := by unfold endFrame; split <;> simp
@[simp] theorem endFrame_settings (s : State) : (endFrame s).settings = s.settings := by unfold endFrame; split <;> simp
@[simp] theorem endFrame_table (s : State) : (endFrame s).table = s.table := by unfold endFrame; split <;> simp
@[simp] theorem endFrame_link (s : State) : (endFrame s).link = s.link := by unfold endFrame; split <;> simp
@[simp] theorem endFrame_pending (s : State) : (endFrame s).pending = s.pending := by unfold endFrame; split <;> simp
@[simp] theorem endSlot_dp (s : State) : (endSlot s).dp = s.dp := by unfold endSlot; split <;> [simp; (split <;> simp)]
@[simp] theorem endSlot_staged (s : State) : (endSlot s).staged = s.staged := by unfold endSlot; split <;> [simp; (split <;> simp)]
@[simp] theorem endSlot_settings (s : State) : (endSlot s).settings = s.settings := by unfold endSlot; split <;> [simp; (split <;> simp)]
@[simp] theorem endSlot_table (s : State) : (endSlot s).table = s.table := by unfold endSlot; split <;> [simp; (split <;> simp)]
@[simp] theorem endSlot_link (s : State) : (endSlot s).link = s.link := by unfold endSlot; split <;> [simp; (split <;> simp)]
@[simp] theorem endSlot_pending (s : State) : (endSlot s).pending = s.pending := by unfold endSlot; split <;> [simp; (split <;> simp)]
@[simp] theorem slotEndIfDue_dp (s : State) : (slotEndIfDue s).dp = s.dp := by unfold slotEndIfDue; split <;> simp
@[simp] theorem slotEndIfDue_staged (s : State) : (slotEndIfDue s).staged = s.staged := by unfold slotEndIfDue; split <;> simp
@[simp] theorem slotEndIfDue_settings (s : State) : (slotEndIfDue s).settings = s.settings := by unfold slotEndIfDue; split <;> simp
@[simp] theorem slotEndIfDue_table (s : State) : (slotEndIfDue s).table = s.table := by unfold slotEndIfDue; split <;> simp
@[simp] theorem slotEndIfDue_link (s : State) : (slotEndIfDue s).link = s.link := by unfold slotEndIfDue; split <;> simp
@[simp] theorem slotEndIfDue_pending (s : State) : (slotEndIfDue s).pending = s.pending := by unfold slotEndIfDue; split <;> simp
@[simp] theorem judgeSample_streams (s : State) : (judgeSample s).streams = s.streams := by unfold judgeSample; dsimp only; ((repeat' split) <;> simp)
@[simp] theorem judgeSample_store (s : State) : (judgeSample s).store = s.store := by unfold judgeSample; dsimp only; ((repeat' split) <;> simp)
@[simp] theorem judgeSample_port (s : State) : (judgeSample s).port = s.port := by unfold judgeSample; dsimp only; ((repeat' split) <;> simp)
@[simp] theorem judgeSample_dp (s : State) : (judgeSample s).dp = s.dp := by unfold judgeSample; dsimp only; ((repeat' split) <;> simp)
@[simp] theorem judgeSample_active (s : State) : (judgeSample s).active = s.active := by unfold judgeSample; dsimp only; ((repeat' split) <;> simp)
@[simp] theorem judgeSample_staged (s : State) : (judgeSample s).staged = s.staged := by unfold judgeSample; dsimp only; ((repeat' split) <;> simp)
@[simp] theorem judgeSample_settings (s : State) : (judgeSample s).settings = s.settings := by unfold judgeSample; dsimp only; ((repeat' split) <;> simp)
@[simp] theorem judgeSample_engine (s : State) : (judgeSample s).engine = s.engine := by unfold judgeSample; dsimp only; ((repeat' split) <;> simp)
@[simp] theorem judgeSample_table (s : State) : (judgeSample s).table = s.table := by unfold judgeSample; dsimp only; ((repeat' split) <;> simp)
@[simp] theorem judgeSample_events (s : State) : (judgeSample s).events = s.events := by unfold judgeSample; dsimp only; ((repeat' split) <;> simp)
@[simp] theorem judgeSample_ctl (s : State) : (judgeSample s).ctl = s.ctl := by unfold judgeSample; dsimp only; ((repeat' split) <;> simp)
@[simp] theorem judgeSample_link (s : State) : (judgeSample s).link = s.link := by unfold judgeSample; dsimp only; ((repeat' split) <;> simp)
@[simp] theorem judgeSample_pending (s : State) : (judgeSample s).pending = s.pending := by unfold judgeSample; dsimp only; ((repeat' split) <;> simp)
@[simp] theorem earlySync_streams (s : State) : (earlySync s).streams = s.streams := by unfold earlySync; dsimp only; ((repeat' split) <;> simp)
@[simp] theorem earlySync_store (s : State) : (earlySync s).store = s.store := by unfold earlySync; dsimp only; ((repeat' split) <;> simp)
@[simp] theorem earlySync_port (s : State) : (earlySync s).port = s.port := by unfold earlySync; dsimp only; ((repeat' split) <;> simp)
@[simp] theorem earlySync_dp (s : State) : (earlySync s).dp = s.dp := by unfold earlySync; dsimp only; ((repeat' split) <;> simp)
@[simp] theorem earlySync_active (s : State) : (earlySync s).active = s.active := by unfold earlySync; dsimp only; ((repeat' split) <;> simp)
@[simp] theorem earlySync_staged (s : State) : (earlySync s).staged = s.staged := by unfold earlySync; dsimp only; ((repeat' split) <;> simp)
@[simp] theorem earlySync_settings (s : State) : (earlySync s).settings = s.settings := by unfold earlySync; dsimp only; ((repeat' split) <;> simp)
@[simp] theorem earlySync_timer (s : State) : (earlySync s).timer = s.timer := by unfold earlySync; dsimp only; ((repeat' split) <;> simp)
@[simp] theorem earlySync_engine (s : State) : (earlySync s).engine = s.engine := by unfold earlySync; dsimp only; ((repeat' split) <;> simp)
@[simp] theorem earlySync_table (s : State) : (earlySync s).table = s.table := by unfold earlySync; dsimp only; ((repeat' split) <;> simp)
@[simp] theorem earlySync_ctl (s : State) : (earlySync s).ctl = s.ctl := by unfold earlySync; dsimp only; ((repeat' split) <;> simp)
@[simp] theorem earlySync_link (s : State) : (earlySync s).link = s.link := by unfold earlySync; dsimp only; ((repeat' split) <;> simp)
@[simp] theorem earlySync_pending (s : State) : (earlySync s).pending = s.pending := by unfold earlySync; dsimp only; ((repeat' split) <;> simp)
@[simp] theorem endWait_store (s : State) : (endWait s).store = s.store := by simp [endWait]
@[simp] theorem endWait_port (s : State) : (endWait s).port = s.port := by simp [endWait]
@[simp] theorem endWait_dp (s : State) : (endWait s).dp = s.dp := by simp [endWait]
@[simp] theorem endWait_staged (s : State) : (endWait s).staged = s.staged := by simp [endWait]
@[simp] theorem endWait_settings (s : State) : (endWait s).settings = s.settings := by simp [endWait]
@[simp] theorem endWait_table (s : State) : (endWait s).table = s.table := by simp [endWait]
@[simp] theorem endWait_link (s : State) : (endWait s).link = s.link := by simp [endWait]
@[simp] theorem endWait_pending (s : State) : (endWait s).pending = s.pending := by simp [endWait]
@[simp] theorem regainSync_store (s : State) : (regainSync s).store = s.store := by simp [regainSync]
@[simp] theorem regainSync_port (s : State) : (regainSync s).port = s.port := by simp [regainSync]
@[simp] theorem regainSync_dp (s : State) : (regainSync s).dp = s.dp := by simp [regainSync]
@[simp] theorem regainSync_staged (s : State) : (regainSync s).staged = s.staged := by simp [regainSync]
@[simp] theorem regainSync_settings (s : State) : (regainSync s).settings = s.settings := by simp [regainSync]
@[simp] theorem regainSync_table (s : State) : (regainSync s).table = s.table := by simp [regainSync]
@[simp] theorem regainSync_link (s : State) : (regainSync s).link = s.link := by simp [regainSync]
@[simp] theorem regainSync_pending (s : State) : (regainSync s).pending = s.pending := by simp [regainSync]
@[simp] theorem qualify_dp (s : State) : (qualify s).dp = s.dp := by unfold qualify; dsimp only; ((repeat' split) <;> simp)
@[simp] theorem qualify_staged (s : State) : (qualify s).staged = s.staged := by unfold qualify; dsimp only; ((repeat' split) <;> simp)
@[simp] theorem qualify_settings (s : State) : (qualify s).settings = s.settings := by unfold qualify; dsimp only; ((repeat' split) <;> simp)
@[simp] theorem qualify_table (s : State) : (qualify s).table = s.table := by unfold qualify; dsimp only; ((repeat' split) <;> simp)
@[simp] theorem qualify_link (s : State) : (qualify s).link = s.link := by unfold qualify; dsimp only; ((repeat' split) <;> simp)
@[simp] theorem qualify_pending (s : State) : (qualify s).pending = s.pending := by unfold qualify; dsimp only; ((repeat' split) <;> simp)
@[simp] theorem qualifyIfDue_dp (s : State) : (qualifyIfDue s).dp = s.dp := by unfold qualifyIfDue; split <;> simp
@[simp] theorem qualifyIfDue_staged (s : State) : (qualifyIfDue s).staged = s.staged := by unfold qualifyIfDue; split <;> simp
@[simp] theorem qualifyIfDue_settings (s : State) : (qualifyIfDue s).settings = s.settings := by unfold qualifyIfDue; split <;> simp
@[simp] theorem qualifyIfDue_table (s : State) : (qualifyIfDue s).table = s.table := by unfold qualifyIfDue; split <;> simp
@[simp] theorem qualifyIfDue_link (s : State) : (qualifyIfDue s).link = s.link := by unfold qualifyIfDue; split <;> simp
@[simp] theorem qualifyIfDue_pending (s : State) : (qualifyIfDue s).pending = s.pending := by unfold qualifyIfDue; split <;> simp
@[simp] theorem expireSync_dp (s : State) : (expireSync s).dp = s.dp := by simp [expireSync]
@[simp] theorem expireSync_staged (s : State) : (expireSync s).staged = s.staged := by simp [expireSync]
@[simp] theorem expireSync_settings (s : State) : (expireSync s).settings = s.settings := by simp [expireSync]
@[simp] theorem expireSync_table (s : State) : (expireSync s).table = s.table := by simp [expireSync]
@[simp] theorem expireSync_link (s : State) : (expireSync s).link = s.link := by simp [expireSync]
@[simp] theorem expireSync_pending (s : State) : (expireSync s).pending = s.pending := by simp [expireSync]
@[simp] theorem expireSyncIfDue_dp (s : State) : (expireSyncIfDue s).dp = s.dp := by unfold expireSyncIfDue; split <;> simp
@[simp] theorem expireSyncIfDue_staged (s : State) : (expireSyncIfDue s).staged = s.staged := by unfold expireSyncIfDue; split <;> simp
@[simp] theorem expireSyncIfDue_settings (s : State) : (expireSyncIfDue s).settings = s.settings := by unfold expireSyncIfDue; split <;> simp
@[simp] theorem expireSyncIfDue_table (s : State) : (expireSyncIfDue s).table = s.table := by unfold expireSyncIfDue; split <;> simp
@[simp] theorem expireSyncIfDue_link (s : State) : (expireSyncIfDue s).link = s.link := by unfold expireSyncIfDue; split <;> simp
@[simp] theorem expireSyncIfDue_pending (s : State) : (expireSyncIfDue s).pending = s.pending := by unfold expireSyncIfDue; split <;> simp
@[simp] theorem frameEvent_dp (s : State) : (frameEvent s).dp = s.dp := by unfold frameEvent; split <;> [simp; (split <;> simp)]
@[simp] theorem frameEvent_staged (s : State) : (frameEvent s).staged = s.staged := by unfold frameEvent; split <;> [simp; (split <;> simp)]
@[simp] theorem frameEvent_settings (s : State) : (frameEvent s).settings = s.settings := by unfold frameEvent; split <;> [simp; (split <;> simp)]
@[simp] theorem frameEvent_table (s : State) : (frameEvent s).table = s.table := by unfold frameEvent; split <;> [simp; (split <;> simp)]
@[simp] theorem frameEvent_link (s : State) : (frameEvent s).link = s.link := by unfold frameEvent; split <;> [simp; (split <;> simp)]
@[simp] theorem frameEvent_pending (s : State) : (frameEvent s).pending = s.pending := by unfold frameEvent; split <;> [simp; (split <;> simp)]

end Sys2Proof.Machine
end

