-- ==== Sys2Proof/Laws/Release.lean ====
section
/-! SUPPORT. What each operation of Machine/Release.lean leaves unchanged: one lemma for each field. -/
namespace Sys2Proof.Machine
open Sys2Proof

@[simp] theorem completeEngagement_store (s : State) : (completeEngagement s).store = s.store := by simp [completeEngagement]
@[simp] theorem completeEngagement_port (s : State) : (completeEngagement s).port = s.port := by simp [completeEngagement]
@[simp] theorem completeEngagement_dp (s : State) : (completeEngagement s).dp = s.dp := by simp [completeEngagement]
@[simp] theorem completeEngagement_staged (s : State) : (completeEngagement s).staged = s.staged := by simp [completeEngagement]
@[simp] theorem completeEngagement_settings (s : State) : (completeEngagement s).settings = s.settings := by simp [completeEngagement]
@[simp] theorem completeEngagement_table (s : State) : (completeEngagement s).table = s.table := by simp [completeEngagement]
@[simp] theorem completeEngagement_link (s : State) : (completeEngagement s).link = s.link := by simp [completeEngagement]
@[simp] theorem completeEngagement_pending (s : State) : (completeEngagement s).pending = s.pending := by simp [completeEngagement]
@[simp] theorem engageIfDue_store (s : State) : (engageIfDue s).store = s.store := by unfold engageIfDue; split <;> simp
@[simp] theorem engageIfDue_port (s : State) : (engageIfDue s).port = s.port := by unfold engageIfDue; split <;> simp
@[simp] theorem engageIfDue_dp (s : State) : (engageIfDue s).dp = s.dp := by unfold engageIfDue; split <;> simp
@[simp] theorem engageIfDue_staged (s : State) : (engageIfDue s).staged = s.staged := by unfold engageIfDue; split <;> simp
@[simp] theorem engageIfDue_settings (s : State) : (engageIfDue s).settings = s.settings := by unfold engageIfDue; split <;> simp
@[simp] theorem engageIfDue_table (s : State) : (engageIfDue s).table = s.table := by unfold engageIfDue; split <;> simp
@[simp] theorem engageIfDue_link (s : State) : (engageIfDue s).link = s.link := by unfold engageIfDue; split <;> simp
@[simp] theorem engageIfDue_pending (s : State) : (engageIfDue s).pending = s.pending := by unfold engageIfDue; split <;> simp
@[simp] theorem handOff_streams (d : Descriptor) (a : Attribution) (t : Tag) (s : State) : (handOff d a t s).streams = s.streams := rfl
@[simp] theorem handOff_store (d : Descriptor) (a : Attribution) (t : Tag) (s : State) : (handOff d a t s).store = s.store := rfl
@[simp] theorem handOff_port (d : Descriptor) (a : Attribution) (t : Tag) (s : State) : (handOff d a t s).port = s.port := rfl
@[simp] theorem handOff_active (d : Descriptor) (a : Attribution) (t : Tag) (s : State) : (handOff d a t s).active = s.active := rfl
@[simp] theorem handOff_staged (d : Descriptor) (a : Attribution) (t : Tag) (s : State) : (handOff d a t s).staged = s.staged := rfl
@[simp] theorem handOff_settings (d : Descriptor) (a : Attribution) (t : Tag) (s : State) : (handOff d a t s).settings = s.settings := rfl
@[simp] theorem handOff_timer (d : Descriptor) (a : Attribution) (t : Tag) (s : State) : (handOff d a t s).timer = s.timer := rfl
@[simp] theorem handOff_engine (d : Descriptor) (a : Attribution) (t : Tag) (s : State) : (handOff d a t s).engine = s.engine := rfl
@[simp] theorem handOff_events (d : Descriptor) (a : Attribution) (t : Tag) (s : State) : (handOff d a t s).events = s.events := rfl
@[simp] theorem handOff_stats (d : Descriptor) (a : Attribution) (t : Tag) (s : State) : (handOff d a t s).stats = s.stats := rfl
@[simp] theorem handOff_ctl (d : Descriptor) (a : Attribution) (t : Tag) (s : State) : (handOff d a t s).ctl = s.ctl := rfl
@[simp] theorem handOff_link (d : Descriptor) (a : Attribution) (t : Tag) (s : State) : (handOff d a t s).link = s.link := rfl
@[simp] theorem handOff_pending (d : Descriptor) (a : Attribution) (t : Tag) (s : State) : (handOff d a t s).pending = s.pending := rfl
@[simp] theorem sendHead_port (k : StreamId) (d : Descriptor) (rest : List Descriptor) (robin : Bool) (t : Tag) (s : State) : (sendHead k d rest robin t s).port = s.port := rfl
@[simp] theorem sendHead_active (k : StreamId) (d : Descriptor) (rest : List Descriptor) (robin : Bool) (t : Tag) (s : State) : (sendHead k d rest robin t s).active = s.active := rfl
@[simp] theorem sendHead_staged (k : StreamId) (d : Descriptor) (rest : List Descriptor) (robin : Bool) (t : Tag) (s : State) : (sendHead k d rest robin t s).staged = s.staged := rfl
@[simp] theorem sendHead_settings (k : StreamId) (d : Descriptor) (rest : List Descriptor) (robin : Bool) (t : Tag) (s : State) : (sendHead k d rest robin t s).settings = s.settings := rfl
@[simp] theorem sendHead_timer (k : StreamId) (d : Descriptor) (rest : List Descriptor) (robin : Bool) (t : Tag) (s : State) : (sendHead k d rest robin t s).timer = s.timer := rfl
@[simp] theorem sendHead_events (k : StreamId) (d : Descriptor) (rest : List Descriptor) (robin : Bool) (t : Tag) (s : State) : (sendHead k d rest robin t s).events = s.events := rfl
@[simp] theorem sendHead_ctl (k : StreamId) (d : Descriptor) (rest : List Descriptor) (robin : Bool) (t : Tag) (s : State) : (sendHead k d rest robin t s).ctl = s.ctl := rfl
@[simp] theorem sendHead_link (k : StreamId) (d : Descriptor) (rest : List Descriptor) (robin : Bool) (t : Tag) (s : State) : (sendHead k d rest robin t s).link = s.link := rfl
@[simp] theorem sendHead_pending (k : StreamId) (d : Descriptor) (rest : List Descriptor) (robin : Bool) (t : Tag) (s : State) : (sendHead k d rest robin t s).pending = s.pending := rfl
@[simp] theorem releaseStream_active (k : StreamId) (robin : Bool) (t : Tag) (s : State) : (releaseStream k robin t s).active = s.active := by unfold releaseStream; split <;> simp
@[simp] theorem releaseStream_staged (k : StreamId) (robin : Bool) (t : Tag) (s : State) : (releaseStream k robin t s).staged = s.staged := by unfold releaseStream; split <;> simp
@[simp] theorem releaseStream_settings (k : StreamId) (robin : Bool) (t : Tag) (s : State) : (releaseStream k robin t s).settings = s.settings := by unfold releaseStream; split <;> simp
@[simp] theorem releaseStream_timer (k : StreamId) (robin : Bool) (t : Tag) (s : State) : (releaseStream k robin t s).timer = s.timer := by unfold releaseStream; split <;> simp
@[simp] theorem releaseStream_link (k : StreamId) (robin : Bool) (t : Tag) (s : State) : (releaseStream k robin t s).link = s.link := by unfold releaseStream; split <;> simp
@[simp] theorem releaseStream_pending (k : StreamId) (robin : Bool) (t : Tag) (s : State) : (releaseStream k robin t s).pending = s.pending := by unfold releaseStream; split <;> simp
@[simp] theorem sendPass_streams (d : Descriptor) (rest : List Descriptor) (t : Tag) (s : State) : (sendPass d rest t s).streams = s.streams := rfl
@[simp] theorem sendPass_port (d : Descriptor) (rest : List Descriptor) (t : Tag) (s : State) : (sendPass d rest t s).port = s.port := rfl
@[simp] theorem sendPass_active (d : Descriptor) (rest : List Descriptor) (t : Tag) (s : State) : (sendPass d rest t s).active = s.active := rfl
@[simp] theorem sendPass_staged (d : Descriptor) (rest : List Descriptor) (t : Tag) (s : State) : (sendPass d rest t s).staged = s.staged := rfl
@[simp] theorem sendPass_settings (d : Descriptor) (rest : List Descriptor) (t : Tag) (s : State) : (sendPass d rest t s).settings = s.settings := rfl
@[simp] theorem sendPass_timer (d : Descriptor) (rest : List Descriptor) (t : Tag) (s : State) : (sendPass d rest t s).timer = s.timer := rfl
@[simp] theorem sendPass_engine (d : Descriptor) (rest : List Descriptor) (t : Tag) (s : State) : (sendPass d rest t s).engine = s.engine := rfl
@[simp] theorem sendPass_events (d : Descriptor) (rest : List Descriptor) (t : Tag) (s : State) : (sendPass d rest t s).events = s.events := rfl
@[simp] theorem sendPass_link (d : Descriptor) (rest : List Descriptor) (t : Tag) (s : State) : (sendPass d rest t s).link = s.link := rfl
@[simp] theorem sendPass_pending (d : Descriptor) (rest : List Descriptor) (t : Tag) (s : State) : (sendPass d rest t s).pending = s.pending := rfl
@[simp] theorem releasePass_staged (t : Tag) (s : State) : (releasePass t s).staged = s.staged := by unfold releasePass; split <;> simp
@[simp] theorem releasePass_settings (t : Tag) (s : State) : (releasePass t s).settings = s.settings := by unfold releasePass; split <;> simp
@[simp] theorem releasePass_link (t : Tag) (s : State) : (releasePass t s).link = s.link := by unfold releasePass; split <;> simp
@[simp] theorem releasePass_pending (t : Tag) (s : State) : (releasePass t s).pending = s.pending := by unfold releasePass; split <;> simp
@[simp] theorem releaseIfDue_staged (s : State) : (releaseIfDue s).staged = s.staged := by unfold releaseIfDue; split <;> simp
@[simp] theorem releaseIfDue_settings (s : State) : (releaseIfDue s).settings = s.settings := by unfold releaseIfDue; split <;> simp
@[simp] theorem releaseIfDue_link (s : State) : (releaseIfDue s).link = s.link := by unfold releaseIfDue; split <;> simp
@[simp] theorem releaseIfDue_pending (s : State) : (releaseIfDue s).pending = s.pending := by unfold releaseIfDue; split <;> simp

end Sys2Proof.Machine
end

