-- ==== Sys2Proof/Laws/Commands.lean ====
section
/-! SUPPORT. What the operations of the link commands leave unchanged: one lemma for each field. -/
namespace Sys2Proof.Machine
open Sys2Proof

@[simp] theorem placeResponse_streams (s : State) : (placeResponse s).streams = s.streams := rfl
@[simp] theorem placeResponse_store (s : State) : (placeResponse s).store = s.store := rfl
@[simp] theorem placeResponse_port (s : State) : (placeResponse s).port = s.port := rfl
@[simp] theorem placeResponse_dp (s : State) : (placeResponse s).dp = s.dp := rfl
@[simp] theorem placeResponse_active (s : State) : (placeResponse s).active = s.active := rfl
@[simp] theorem placeResponse_staged (s : State) : (placeResponse s).staged = s.staged := rfl
@[simp] theorem placeResponse_settings (s : State) : (placeResponse s).settings = s.settings := rfl
@[simp] theorem placeResponse_timer (s : State) : (placeResponse s).timer = s.timer := rfl
@[simp] theorem placeResponse_engine (s : State) : (placeResponse s).engine = s.engine := rfl
@[simp] theorem placeResponse_table (s : State) : (placeResponse s).table = s.table := rfl
@[simp] theorem placeResponse_events (s : State) : (placeResponse s).events = s.events := rfl
@[simp] theorem placeResponse_stats (s : State) : (placeResponse s).stats = s.stats := rfl
@[simp] theorem placeResponse_ctl (s : State) : (placeResponse s).ctl = s.ctl := rfl
@[simp] theorem placeResponse_pending (s : State) : (placeResponse s).pending = s.pending := rfl
@[simp] theorem closeRequest_store (k : StreamId) (s : State) : (closeRequest k s).store = s.store := by unfold closeRequest; split <;> simp
@[simp] theorem closeRequest_port (k : StreamId) (s : State) : (closeRequest k s).port = s.port := by unfold closeRequest; split <;> simp
@[simp] theorem closeRequest_dp (k : StreamId) (s : State) : (closeRequest k s).dp = s.dp := by unfold closeRequest; split <;> simp
@[simp] theorem closeRequest_active (k : StreamId) (s : State) : (closeRequest k s).active = s.active := by unfold closeRequest; split <;> simp
@[simp] theorem closeRequest_staged (k : StreamId) (s : State) : (closeRequest k s).staged = s.staged := by unfold closeRequest; split <;> simp
@[simp] theorem closeRequest_settings (k : StreamId) (s : State) : (closeRequest k s).settings = s.settings := by unfold closeRequest; split <;> simp
@[simp] theorem closeRequest_timer (k : StreamId) (s : State) : (closeRequest k s).timer = s.timer := by unfold closeRequest; split <;> simp
@[simp] theorem closeRequest_engine (k : StreamId) (s : State) : (closeRequest k s).engine = s.engine := by unfold closeRequest; split <;> simp
@[simp] theorem closeRequest_table (k : StreamId) (s : State) : (closeRequest k s).table = s.table := by unfold closeRequest; split <;> simp
@[simp] theorem closeRequest_ctl (k : StreamId) (s : State) : (closeRequest k s).ctl = s.ctl := by unfold closeRequest; split <;> simp
@[simp] theorem closeRequest_link (k : StreamId) (s : State) : (closeRequest k s).link = s.link := by unfold closeRequest; split <;> simp
@[simp] theorem closeRequest_pending (k : StreamId) (s : State) : (closeRequest k s).pending = s.pending := by unfold closeRequest; split <;> simp
@[simp] theorem changeStream_store (k : StreamId) (target : StreamState) (x : Transition) (s : State) : (changeStream k target x s).store = s.store := by unfold changeStream; split <;> simp
@[simp] theorem changeStream_port (k : StreamId) (target : StreamState) (x : Transition) (s : State) : (changeStream k target x s).port = s.port := by unfold changeStream; split <;> simp
@[simp] theorem changeStream_dp (k : StreamId) (target : StreamState) (x : Transition) (s : State) : (changeStream k target x s).dp = s.dp := by unfold changeStream; split <;> simp
@[simp] theorem changeStream_active (k : StreamId) (target : StreamState) (x : Transition) (s : State) : (changeStream k target x s).active = s.active := by unfold changeStream; split <;> simp
@[simp] theorem changeStream_staged (k : StreamId) (target : StreamState) (x : Transition) (s : State) : (changeStream k target x s).staged = s.staged := by unfold changeStream; split <;> simp
@[simp] theorem changeStream_settings (k : StreamId) (target : StreamState) (x : Transition) (s : State) : (changeStream k target x s).settings = s.settings := by unfold changeStream; split <;> simp
@[simp] theorem changeStream_timer (k : StreamId) (target : StreamState) (x : Transition) (s : State) : (changeStream k target x s).timer = s.timer := by unfold changeStream; split <;> simp
@[simp] theorem changeStream_engine (k : StreamId) (target : StreamState) (x : Transition) (s : State) : (changeStream k target x s).engine = s.engine := by unfold changeStream; split <;> simp
@[simp] theorem changeStream_table (k : StreamId) (target : StreamState) (x : Transition) (s : State) : (changeStream k target x s).table = s.table := by unfold changeStream; split <;> simp
@[simp] theorem changeStream_ctl (k : StreamId) (target : StreamState) (x : Transition) (s : State) : (changeStream k target x s).ctl = s.ctl := by unfold changeStream; split <;> simp
@[simp] theorem changeStream_link (k : StreamId) (target : StreamState) (x : Transition) (s : State) : (changeStream k target x s).link = s.link := by unfold changeStream; split <;> simp
@[simp] theorem changeStream_pending (k : StreamId) (target : StreamState) (x : Transition) (s : State) : (changeStream k target x s).pending = s.pending := by unfold changeStream; split <;> simp
@[simp] theorem mergeQueues_streams (s : State) : (mergeQueues s).streams = s.streams := rfl
@[simp] theorem mergeQueues_port (s : State) : (mergeQueues s).port = s.port := rfl
@[simp] theorem mergeQueues_dp (s : State) : (mergeQueues s).dp = s.dp := rfl
@[simp] theorem mergeQueues_active (s : State) : (mergeQueues s).active = s.active := rfl
@[simp] theorem mergeQueues_staged (s : State) : (mergeQueues s).staged = s.staged := rfl
@[simp] theorem mergeQueues_settings (s : State) : (mergeQueues s).settings = s.settings := rfl
@[simp] theorem mergeQueues_timer (s : State) : (mergeQueues s).timer = s.timer := rfl
@[simp] theorem mergeQueues_engine (s : State) : (mergeQueues s).engine = s.engine := rfl
@[simp] theorem mergeQueues_table (s : State) : (mergeQueues s).table = s.table := rfl
@[simp] theorem mergeQueues_events (s : State) : (mergeQueues s).events = s.events := rfl
@[simp] theorem mergeQueues_stats (s : State) : (mergeQueues s).stats = s.stats := rfl
@[simp] theorem mergeQueues_ctl (s : State) : (mergeQueues s).ctl = s.ctl := rfl
@[simp] theorem mergeQueues_link (s : State) : (mergeQueues s).link = s.link := rfl
@[simp] theorem mergeQueues_pending (s : State) : (mergeQueues s).pending = s.pending := rfl
@[simp] theorem leaveRegulation_streams (s : State) : (leaveRegulation s).streams = s.streams := by unfold leaveRegulation; split <;> simp
@[simp] theorem leaveRegulation_store (s : State) : (leaveRegulation s).store = s.store := by unfold leaveRegulation; split <;> simp
@[simp] theorem leaveRegulation_port (s : State) : (leaveRegulation s).port = s.port := by unfold leaveRegulation; split <;> simp
@[simp] theorem leaveRegulation_dp (s : State) : (leaveRegulation s).dp = s.dp := by unfold leaveRegulation; split <;> simp
@[simp] theorem leaveRegulation_staged (s : State) : (leaveRegulation s).staged = s.staged := by unfold leaveRegulation; split <;> simp
@[simp] theorem leaveRegulation_settings (s : State) : (leaveRegulation s).settings = s.settings := by unfold leaveRegulation; split <;> simp
@[simp] theorem leaveRegulation_table (s : State) : (leaveRegulation s).table = s.table := by unfold leaveRegulation; split <;> simp
@[simp] theorem leaveRegulation_link (s : State) : (leaveRegulation s).link = s.link := by unfold leaveRegulation; split <;> simp
@[simp] theorem leaveRegulation_pending (s : State) : (leaveRegulation s).pending = s.pending := by unfold leaveRegulation; split <;> simp
@[simp] theorem cancelQuiesce_streams (s : State) : (cancelQuiesce s).streams = s.streams := rfl
@[simp] theorem cancelQuiesce_store (s : State) : (cancelQuiesce s).store = s.store := rfl
@[simp] theorem cancelQuiesce_port (s : State) : (cancelQuiesce s).port = s.port := rfl
@[simp] theorem cancelQuiesce_dp (s : State) : (cancelQuiesce s).dp = s.dp := rfl
@[simp] theorem cancelQuiesce_active (s : State) : (cancelQuiesce s).active = s.active := rfl
@[simp] theorem cancelQuiesce_staged (s : State) : (cancelQuiesce s).staged = s.staged := rfl
@[simp] theorem cancelQuiesce_settings (s : State) : (cancelQuiesce s).settings = s.settings := rfl
@[simp] theorem cancelQuiesce_timer (s : State) : (cancelQuiesce s).timer = s.timer := rfl
@[simp] theorem cancelQuiesce_engine (s : State) : (cancelQuiesce s).engine = s.engine := rfl
@[simp] theorem cancelQuiesce_table (s : State) : (cancelQuiesce s).table = s.table := rfl
@[simp] theorem cancelQuiesce_link (s : State) : (cancelQuiesce s).link = s.link := rfl
@[simp] theorem cancelQuiesce_pending (s : State) : (cancelQuiesce s).pending = s.pending := rfl
@[simp] theorem takeSnapshot_streams (c : GroupCopy) (clear : Bool) (s : State) : (takeSnapshot c clear s).streams = s.streams := by unfold takeSnapshot; dsimp only; ((repeat' split) <;> simp)
@[simp] theorem takeSnapshot_store (c : GroupCopy) (clear : Bool) (s : State) : (takeSnapshot c clear s).store = s.store := by unfold takeSnapshot; dsimp only; ((repeat' split) <;> simp)
@[simp] theorem takeSnapshot_port (c : GroupCopy) (clear : Bool) (s : State) : (takeSnapshot c clear s).port = s.port := by unfold takeSnapshot; dsimp only; ((repeat' split) <;> simp)
@[simp] theorem takeSnapshot_dp (c : GroupCopy) (clear : Bool) (s : State) : (takeSnapshot c clear s).dp = s.dp := by unfold takeSnapshot; dsimp only; ((repeat' split) <;> simp)
@[simp] theorem takeSnapshot_active (c : GroupCopy) (clear : Bool) (s : State) : (takeSnapshot c clear s).active = s.active := by unfold takeSnapshot; dsimp only; ((repeat' split) <;> simp)
@[simp] theorem takeSnapshot_staged (c : GroupCopy) (clear : Bool) (s : State) : (takeSnapshot c clear s).staged = s.staged := by unfold takeSnapshot; dsimp only; ((repeat' split) <;> simp)
@[simp] theorem takeSnapshot_settings (c : GroupCopy) (clear : Bool) (s : State) : (takeSnapshot c clear s).settings = s.settings := by unfold takeSnapshot; dsimp only; ((repeat' split) <;> simp)
@[simp] theorem takeSnapshot_timer (c : GroupCopy) (clear : Bool) (s : State) : (takeSnapshot c clear s).timer = s.timer := by unfold takeSnapshot; dsimp only; ((repeat' split) <;> simp)
@[simp] theorem takeSnapshot_engine (c : GroupCopy) (clear : Bool) (s : State) : (takeSnapshot c clear s).engine = s.engine := by unfold takeSnapshot; dsimp only; ((repeat' split) <;> simp)
@[simp] theorem takeSnapshot_table (c : GroupCopy) (clear : Bool) (s : State) : (takeSnapshot c clear s).table = s.table := by unfold takeSnapshot; dsimp only; ((repeat' split) <;> simp)
@[simp] theorem takeSnapshot_events (c : GroupCopy) (clear : Bool) (s : State) : (takeSnapshot c clear s).events = s.events := by unfold takeSnapshot; dsimp only; ((repeat' split) <;> simp)
@[simp] theorem takeSnapshot_ctl (c : GroupCopy) (clear : Bool) (s : State) : (takeSnapshot c clear s).ctl = s.ctl := by unfold takeSnapshot; dsimp only; ((repeat' split) <;> simp)
@[simp] theorem takeSnapshot_link (c : GroupCopy) (clear : Bool) (s : State) : (takeSnapshot c clear s).link = s.link := by unfold takeSnapshot; dsimp only; ((repeat' split) <;> simp)
@[simp] theorem takeSnapshot_pending (c : GroupCopy) (clear : Bool) (s : State) : (takeSnapshot c clear s).pending = s.pending := by unfold takeSnapshot; dsimp only; ((repeat' split) <;> simp)
@[simp] theorem writeSettings_streams (w : SettingsWrite) (s : State) : (writeSettings w s).streams = s.streams := rfl
@[simp] theorem writeSettings_store (w : SettingsWrite) (s : State) : (writeSettings w s).store = s.store := rfl
@[simp] theorem writeSettings_port (w : SettingsWrite) (s : State) : (writeSettings w s).port = s.port := rfl
@[simp] theorem writeSettings_dp (w : SettingsWrite) (s : State) : (writeSettings w s).dp = s.dp := rfl
@[simp] theorem writeSettings_active (w : SettingsWrite) (s : State) : (writeSettings w s).active = s.active := rfl
@[simp] theorem writeSettings_staged (w : SettingsWrite) (s : State) : (writeSettings w s).staged = s.staged := rfl
@[simp] theorem writeSettings_engine (w : SettingsWrite) (s : State) : (writeSettings w s).engine = s.engine := rfl
@[simp] theorem writeSettings_table (w : SettingsWrite) (s : State) : (writeSettings w s).table = s.table := rfl
@[simp] theorem writeSettings_events (w : SettingsWrite) (s : State) : (writeSettings w s).events = s.events := rfl
@[simp] theorem writeSettings_stats (w : SettingsWrite) (s : State) : (writeSettings w s).stats = s.stats := rfl
@[simp] theorem writeSettings_ctl (w : SettingsWrite) (s : State) : (writeSettings w s).ctl = s.ctl := rfl
@[simp] theorem writeSettings_link (w : SettingsWrite) (s : State) : (writeSettings w s).link = s.link := rfl
@[simp] theorem writeSettings_pending (w : SettingsWrite) (s : State) : (writeSettings w s).pending = s.pending := rfl
@[simp] theorem advance_streams (l : Level) (s : State) : (advance l s).streams = s.streams := rfl
@[simp] theorem advance_store (l : Level) (s : State) : (advance l s).store = s.store := rfl
@[simp] theorem advance_port (l : Level) (s : State) : (advance l s).port = s.port := rfl
@[simp] theorem advance_dp (l : Level) (s : State) : (advance l s).dp = s.dp := rfl
@[simp] theorem advance_active (l : Level) (s : State) : (advance l s).active = s.active := rfl
@[simp] theorem advance_staged (l : Level) (s : State) : (advance l s).staged = s.staged := rfl
@[simp] theorem advance_settings (l : Level) (s : State) : (advance l s).settings = s.settings := rfl
@[simp] theorem advance_engine (l : Level) (s : State) : (advance l s).engine = s.engine := rfl
@[simp] theorem advance_table (l : Level) (s : State) : (advance l s).table = s.table := rfl
@[simp] theorem advance_events (l : Level) (s : State) : (advance l s).events = s.events := rfl
@[simp] theorem advance_stats (l : Level) (s : State) : (advance l s).stats = s.stats := rfl
@[simp] theorem advance_ctl (l : Level) (s : State) : (advance l s).ctl = s.ctl := rfl
@[simp] theorem advance_link (l : Level) (s : State) : (advance l s).link = s.link := rfl
@[simp] theorem advance_pending (l : Level) (s : State) : (advance l s).pending = s.pending := rfl

end Sys2Proof.Machine
end

