-- ==== Sys2Proof/Laws/Repeated.lean ====
section
/-! SUPPORT. What the operations that repeat others, over a list or a number of times, leave unchanged. -/
namespace Sys2Proof.Machine
open Sys2Proof

/-- What each round of a fold leaves unchanged, the fold leaves unchanged. -/
theorem foldl_field {α β : Type} {g : State → α → State} (F : State → β) (h : ∀ s a, F (g s a) = F s) (l : List α)
    (s : State) : F (l.foldl g s) = F s := by
  induction l generalizing s with
  | nil => rfl
  | cons a l ih => rw [List.foldl_cons, ih, h]

/-- What one application leaves unchanged, any number of them leaves unchanged. -/
theorem iterate_field {β : Type} {g : State → State} (F : State → β) (h : ∀ s, F (g s) = F s) (n : Nat) (s : State) :
    F (g^[n] s) = F s := by
  induction n generalizing s with
  | zero => rfl
  | succ n ih => rw [Function.iterate_succ_apply, ih, h]

@[simp] theorem arrive_dp (r : DownResponse) (s : State) : (arrive r s).dp = s.dp := by
  unfold arrive; split
  · split <;> simp
  · simp
@[simp] theorem arrive_active (r : DownResponse) (s : State) : (arrive r s).active = s.active := by
  unfold arrive; split
  · split <;> simp
  · simp
@[simp] theorem arrive_staged (r : DownResponse) (s : State) : (arrive r s).staged = s.staged := by
  unfold arrive; split
  · split <;> simp
  · simp
@[simp] theorem arrive_settings (r : DownResponse) (s : State) : (arrive r s).settings = s.settings := by
  unfold arrive; split
  · split <;> simp
  · simp
@[simp] theorem arrive_timer (r : DownResponse) (s : State) : (arrive r s).timer = s.timer := by
  unfold arrive; split
  · split <;> simp
  · simp
@[simp] theorem arrive_link (r : DownResponse) (s : State) : (arrive r s).link = s.link := by
  unfold arrive; split
  · split <;> simp
  · simp
@[simp] theorem arrive_pending (r : DownResponse) (s : State) : (arrive r s).pending = s.pending := by
  unfold arrive; split
  · split <;> simp
  · simp
@[simp] theorem refuseAll_store (reason : Reason) (k : Option StreamId) (ds : List Descriptor) (s : State) : (refuseAll reason k ds s).store = s.store := foldl_field (·.store) (by simp) ds s
@[simp] theorem refuseAll_dp (reason : Reason) (k : Option StreamId) (ds : List Descriptor) (s : State) : (refuseAll reason k ds s).dp = s.dp := foldl_field (·.dp) (by simp) ds s
@[simp] theorem refuseAll_active (reason : Reason) (k : Option StreamId) (ds : List Descriptor) (s : State) : (refuseAll reason k ds s).active = s.active := foldl_field (·.active) (by simp) ds s
@[simp] theorem refuseAll_staged (reason : Reason) (k : Option StreamId) (ds : List Descriptor) (s : State) : (refuseAll reason k ds s).staged = s.staged := foldl_field (·.staged) (by simp) ds s
@[simp] theorem refuseAll_settings (reason : Reason) (k : Option StreamId) (ds : List Descriptor) (s : State) : (refuseAll reason k ds s).settings = s.settings := foldl_field (·.settings) (by simp) ds s
@[simp] theorem refuseAll_timer (reason : Reason) (k : Option StreamId) (ds : List Descriptor) (s : State) : (refuseAll reason k ds s).timer = s.timer := foldl_field (·.timer) (by simp) ds s
@[simp] theorem refuseAll_engine (reason : Reason) (k : Option StreamId) (ds : List Descriptor) (s : State) : (refuseAll reason k ds s).engine = s.engine := foldl_field (·.engine) (by simp) ds s
@[simp] theorem refuseAll_table (reason : Reason) (k : Option StreamId) (ds : List Descriptor) (s : State) : (refuseAll reason k ds s).table = s.table := foldl_field (·.table) (by simp) ds s
@[simp] theorem refuseAll_ctl (reason : Reason) (k : Option StreamId) (ds : List Descriptor) (s : State) : (refuseAll reason k ds s).ctl = s.ctl := foldl_field (·.ctl) (by simp) ds s
@[simp] theorem refuseAll_link (reason : Reason) (k : Option StreamId) (ds : List Descriptor) (s : State) : (refuseAll reason k ds s).link = s.link := foldl_field (·.link) (by simp) ds s
@[simp] theorem refuseAll_pending (reason : Reason) (k : Option StreamId) (ds : List Descriptor) (s : State) : (refuseAll reason k ds s).pending = s.pending := foldl_field (·.pending) (by simp) ds s
@[simp] theorem closeDrained_store (s : State) : (closeDrained s).store = s.store := foldl_field (·.store) (by simp) _ s
@[simp] theorem closeDrained_port (s : State) : (closeDrained s).port = s.port := foldl_field (·.port) (by simp) _ s
@[simp] theorem closeDrained_dp (s : State) : (closeDrained s).dp = s.dp := foldl_field (·.dp) (by simp) _ s
@[simp] theorem closeDrained_active (s : State) : (closeDrained s).active = s.active := foldl_field (·.active) (by simp) _ s
@[simp] theorem closeDrained_staged (s : State) : (closeDrained s).staged = s.staged := foldl_field (·.staged) (by simp) _ s
@[simp] theorem closeDrained_settings (s : State) : (closeDrained s).settings = s.settings := foldl_field (·.settings) (by simp) _ s
@[simp] theorem closeDrained_timer (s : State) : (closeDrained s).timer = s.timer := foldl_field (·.timer) (by simp) _ s
@[simp] theorem closeDrained_engine (s : State) : (closeDrained s).engine = s.engine := foldl_field (·.engine) (by simp) _ s
@[simp] theorem closeDrained_table (s : State) : (closeDrained s).table = s.table := foldl_field (·.table) (by simp) _ s
@[simp] theorem closeDrained_ctl (s : State) : (closeDrained s).ctl = s.ctl := foldl_field (·.ctl) (by simp) _ s
@[simp] theorem closeDrained_link (s : State) : (closeDrained s).link = s.link := foldl_field (·.link) (by simp) _ s
@[simp] theorem closeDrained_pending (s : State) : (closeDrained s).pending = s.pending := foldl_field (·.pending) (by simp) _ s
@[simp] theorem expireAll_dp (s : State) : (expireAll s).dp = s.dp := foldl_field (·.dp) (by simp) _ s
@[simp] theorem expireAll_active (s : State) : (expireAll s).active = s.active := foldl_field (·.active) (by simp) _ s
@[simp] theorem expireAll_staged (s : State) : (expireAll s).staged = s.staged := foldl_field (·.staged) (by simp) _ s
@[simp] theorem expireAll_settings (s : State) : (expireAll s).settings = s.settings := foldl_field (·.settings) (by simp) _ s
@[simp] theorem expireAll_timer (s : State) : (expireAll s).timer = s.timer := foldl_field (·.timer) (by simp) _ s
@[simp] theorem expireAll_link (s : State) : (expireAll s).link = s.link := foldl_field (·.link) (by simp) _ s
@[simp] theorem expireAll_pending (s : State) : (expireAll s).pending = s.pending := foldl_field (·.pending) (by simp) _ s
@[simp] theorem refuseQueued_store (s : State) : (refuseQueued s).store = s.store := foldl_field (·.store) (by simp) _ s
@[simp] theorem refuseQueued_dp (s : State) : (refuseQueued s).dp = s.dp := foldl_field (·.dp) (by simp) _ s
@[simp] theorem refuseQueued_active (s : State) : (refuseQueued s).active = s.active := foldl_field (·.active) (by simp) _ s
@[simp] theorem refuseQueued_staged (s : State) : (refuseQueued s).staged = s.staged := foldl_field (·.staged) (by simp) _ s
@[simp] theorem refuseQueued_settings (s : State) : (refuseQueued s).settings = s.settings := foldl_field (·.settings) (by simp) _ s
@[simp] theorem refuseQueued_timer (s : State) : (refuseQueued s).timer = s.timer := foldl_field (·.timer) (by simp) _ s
@[simp] theorem refuseQueued_engine (s : State) : (refuseQueued s).engine = s.engine := foldl_field (·.engine) (by simp) _ s
@[simp] theorem refuseQueued_table (s : State) : (refuseQueued s).table = s.table := foldl_field (·.table) (by simp) _ s
@[simp] theorem refuseQueued_ctl (s : State) : (refuseQueued s).ctl = s.ctl := foldl_field (·.ctl) (by simp) _ s
@[simp] theorem refuseQueued_link (s : State) : (refuseQueued s).link = s.link := foldl_field (·.link) (by simp) _ s
@[simp] theorem refuseQueued_pending (s : State) : (refuseQueued s).pending = s.pending := foldl_field (·.pending) (by simp) _ s
@[simp] theorem crossAll_port (s : State) : (crossAll s).port = s.port := iterate_field (·.port) (by simp) _ s
@[simp] theorem crossAll_dp (s : State) : (crossAll s).dp = s.dp := iterate_field (·.dp) (by simp) _ s
@[simp] theorem crossAll_active (s : State) : (crossAll s).active = s.active := iterate_field (·.active) (by simp) _ s
@[simp] theorem crossAll_staged (s : State) : (crossAll s).staged = s.staged := iterate_field (·.staged) (by simp) _ s
@[simp] theorem crossAll_settings (s : State) : (crossAll s).settings = s.settings := iterate_field (·.settings) (by simp) _ s
@[simp] theorem crossAll_timer (s : State) : (crossAll s).timer = s.timer := iterate_field (·.timer) (by simp) _ s
@[simp] theorem crossAll_engine (s : State) : (crossAll s).engine = s.engine := iterate_field (·.engine) (by simp) _ s
@[simp] theorem crossAll_table (s : State) : (crossAll s).table = s.table := iterate_field (·.table) (by simp) _ s
@[simp] theorem crossAll_ctl (s : State) : (crossAll s).ctl = s.ctl := iterate_field (·.ctl) (by simp) _ s
@[simp] theorem crossAll_link (s : State) : (crossAll s).link = s.link := iterate_field (·.link) (by simp) _ s
@[simp] theorem crossAll_pending (s : State) : (crossAll s).pending = s.pending := iterate_field (·.pending) (by simp) _ s
@[simp] theorem crossWritten_port (w : StreamWrite) (s : State) : (crossWritten w s).port = s.port := by
  unfold crossWritten; split
  · exact iterate_field (·.port) (by simp) _ s
  · rfl
@[simp] theorem crossWritten_dp (w : StreamWrite) (s : State) : (crossWritten w s).dp = s.dp := by
  unfold crossWritten; split
  · exact iterate_field (·.dp) (by simp) _ s
  · rfl
@[simp] theorem crossWritten_active (w : StreamWrite) (s : State) : (crossWritten w s).active = s.active := by
  unfold crossWritten; split
  · exact iterate_field (·.active) (by simp) _ s
  · rfl
@[simp] theorem crossWritten_staged (w : StreamWrite) (s : State) : (crossWritten w s).staged = s.staged := by
  unfold crossWritten; split
  · exact iterate_field (·.staged) (by simp) _ s
  · rfl
@[simp] theorem crossWritten_settings (w : StreamWrite) (s : State) : (crossWritten w s).settings = s.settings := by
  unfold crossWritten; split
  · exact iterate_field (·.settings) (by simp) _ s
  · rfl
@[simp] theorem crossWritten_timer (w : StreamWrite) (s : State) : (crossWritten w s).timer = s.timer := by
  unfold crossWritten; split
  · exact iterate_field (·.timer) (by simp) _ s
  · rfl
@[simp] theorem crossWritten_engine (w : StreamWrite) (s : State) : (crossWritten w s).engine = s.engine := by
  unfold crossWritten; split
  · exact iterate_field (·.engine) (by simp) _ s
  · rfl
@[simp] theorem crossWritten_table (w : StreamWrite) (s : State) : (crossWritten w s).table = s.table := by
  unfold crossWritten; split
  · exact iterate_field (·.table) (by simp) _ s
  · rfl
@[simp] theorem crossWritten_ctl (w : StreamWrite) (s : State) : (crossWritten w s).ctl = s.ctl := by
  unfold crossWritten; split
  · exact iterate_field (·.ctl) (by simp) _ s
  · rfl
@[simp] theorem crossWritten_link (w : StreamWrite) (s : State) : (crossWritten w s).link = s.link := by
  unfold crossWritten; split
  · exact iterate_field (·.link) (by simp) _ s
  · rfl
@[simp] theorem crossWritten_pending (w : StreamWrite) (s : State) : (crossWritten w s).pending = s.pending := by
  unfold crossWritten; split
  · exact iterate_field (·.pending) (by simp) _ s
  · rfl
@[simp] theorem writeFields_port (w : StreamWrite) (s : State) : (writeFields w s).port = s.port := by simp [writeFields]
@[simp] theorem writeFields_dp (w : StreamWrite) (s : State) : (writeFields w s).dp = s.dp := by simp [writeFields]
@[simp] theorem writeFields_active (w : StreamWrite) (s : State) : (writeFields w s).active = s.active := by simp [writeFields]
@[simp] theorem writeFields_staged (w : StreamWrite) (s : State) : (writeFields w s).staged = s.staged := by simp [writeFields]
@[simp] theorem writeFields_settings (w : StreamWrite) (s : State) : (writeFields w s).settings = s.settings := by simp [writeFields]
@[simp] theorem writeFields_timer (w : StreamWrite) (s : State) : (writeFields w s).timer = s.timer := by simp [writeFields]
@[simp] theorem writeFields_engine (w : StreamWrite) (s : State) : (writeFields w s).engine = s.engine := by simp [writeFields]
@[simp] theorem writeFields_table (w : StreamWrite) (s : State) : (writeFields w s).table = s.table := by simp [writeFields]
@[simp] theorem writeFields_ctl (w : StreamWrite) (s : State) : (writeFields w s).ctl = s.ctl := by simp [writeFields]
@[simp] theorem writeFields_link (w : StreamWrite) (s : State) : (writeFields w s).link = s.link := by simp [writeFields]
@[simp] theorem writeFields_pending (w : StreamWrite) (s : State) : (writeFields w s).pending = s.pending := by simp [writeFields]
@[simp] theorem flush_dp (k : StreamId) (s : State) : (flush k s).dp = s.dp := by simp [flush]
@[simp] theorem flush_active (k : StreamId) (s : State) : (flush k s).active = s.active := by simp [flush]
@[simp] theorem flush_staged (k : StreamId) (s : State) : (flush k s).staged = s.staged := by simp [flush]
@[simp] theorem flush_settings (k : StreamId) (s : State) : (flush k s).settings = s.settings := by simp [flush]
@[simp] theorem flush_timer (k : StreamId) (s : State) : (flush k s).timer = s.timer := by simp [flush]
@[simp] theorem flush_table (k : StreamId) (s : State) : (flush k s).table = s.table := by simp [flush]
@[simp] theorem flush_link (k : StreamId) (s : State) : (flush k s).link = s.link := by simp [flush]
@[simp] theorem flush_pending (k : StreamId) (s : State) : (flush k s).pending = s.pending := by simp [flush]
@[simp] theorem disengage_dp (s : State) : (disengage s).dp = s.dp := by simp [disengage]
@[simp] theorem disengage_staged (s : State) : (disengage s).staged = s.staged := by simp [disengage]
@[simp] theorem disengage_settings (s : State) : (disengage s).settings = s.settings := by simp [disengage]
@[simp] theorem disengage_table (s : State) : (disengage s).table = s.table := by simp [disengage]
@[simp] theorem disengage_link (s : State) : (disengage s).link = s.link := by simp [disengage]
@[simp] theorem disengage_pending (s : State) : (disengage s).pending = s.pending := by simp [disengage]
@[simp] theorem settingsEvents_dp (w : SettingsWrite) (s : State) : (settingsEvents w s).dp = s.dp := by
  unfold settingsEvents; dsimp only; ((repeat' split) <;> simp)
@[simp] theorem settingsEvents_staged (w : SettingsWrite) (s : State) : (settingsEvents w s).staged = s.staged := by
  unfold settingsEvents; dsimp only; ((repeat' split) <;> simp)
@[simp] theorem settingsEvents_settings (w : SettingsWrite) (s : State) : (settingsEvents w s).settings = s.settings := by
  unfold settingsEvents; dsimp only; ((repeat' split) <;> simp)
@[simp] theorem settingsEvents_link (w : SettingsWrite) (s : State) : (settingsEvents w s).link = s.link := by
  unfold settingsEvents; dsimp only; ((repeat' split) <;> simp)
@[simp] theorem settingsEvents_pending (w : SettingsWrite) (s : State) : (settingsEvents w s).pending = s.pending := by
  unfold settingsEvents; dsimp only; ((repeat' split) <;> simp)
@[simp] theorem resetBlocks_port (s : State) : (resetBlocks s).port = s.port := rfl
@[simp] theorem resetBlocks_dp (s : State) : (resetBlocks s).dp = s.dp := rfl
@[simp] theorem resetBlocks_link (s : State) : (resetBlocks s).link = s.link := rfl
@[simp] theorem resetBlocks_pending (s : State) : (resetBlocks s).pending = s.pending := rfl
@[simp] theorem resetCommand_dp (s : State) : (resetCommand s).dp = s.dp := by simp [resetCommand]
@[simp] theorem resetCommand_link (s : State) : (resetCommand s).link = s.link := by simp [resetCommand]
@[simp] theorem resetCommand_pending (s : State) : (resetCommand s).pending = s.pending := by simp [resetCommand]
@[simp] theorem settle_staged (s : State) : (settle s).staged = s.staged := by simp [settle]
@[simp] theorem settle_settings (s : State) : (settle s).settings = s.settings := by simp [settle]
@[simp] theorem settle_link (s : State) : (settle s).link = s.link := by simp [settle]
@[simp] theorem settle_pending (s : State) : (settle s).pending = s.pending := by simp [settle]

end Sys2Proof.Machine
end

