-- ==== Sys2Proof/Laws/Rules.lean ====
section
/-! SUPPORT. No command's own rule touches the link, the Downstream Port or the queue of commands. -/
namespace Sys2Proof.Machine
open Sys2Proof

@[simp] theorem cmdStatus_dp (args : List Byte) (s : State) : (cmdStatus args s).1.dp = s.dp := by
  simp only [cmdStatus, accepted, refusal]; ((repeat' split) <;> simp)
@[simp] theorem cmdReadSettings_dp (args : List Byte) (s : State) : (cmdReadSettings args s).1.dp = s.dp := by
  simp only [cmdReadSettings, accepted, refusal]; ((repeat' split) <;> simp)
@[simp] theorem cmdWriteSettings_dp (args : List Byte) (s : State) : (cmdWriteSettings args s).1.dp = s.dp := by
  simp only [cmdWriteSettings, accepted, refusal]; ((repeat' split) <;> simp)
@[simp] theorem cmdReadStream_dp (args : List Byte) (s : State) : (cmdReadStream args s).1.dp = s.dp := by
  simp only [cmdReadStream, accepted, refusal]; ((repeat' split) <;> simp)
@[simp] theorem cmdWriteStream_dp (args : List Byte) (s : State) : (cmdWriteStream args s).1.dp = s.dp := by
  simp only [cmdWriteStream, accepted, refusal]; ((repeat' split) <;> simp)
@[simp] theorem cmdSetStreamState_dp (args : List Byte) (s : State) : (cmdSetStreamState args s).1.dp = s.dp := by
  simp only [cmdSetStreamState, refusal]; ((repeat' split) <;> simp)
@[simp] theorem cmdFlushStream_dp (args : List Byte) (s : State) : (cmdFlushStream args s).1.dp = s.dp := by
  simp only [cmdFlushStream, accepted, refusal]; ((repeat' split) <;> simp)
@[simp] theorem cmdClearFlags_dp (args : List Byte) (s : State) : (cmdClearFlags args s).1.dp = s.dp := by
  simp only [cmdClearFlags, accepted, refusal]; ((repeat' split) <;> simp)
@[simp] theorem cmdReadSlots_dp (args : List Byte) (s : State) : (cmdReadSlots args s).1.dp = s.dp := by
  simp only [cmdReadSlots, accepted, refusal]; ((repeat' split) <;> simp)
@[simp] theorem cmdWriteSlots_dp (args : List Byte) (s : State) : (cmdWriteSlots args s).1.dp = s.dp := by
  simp only [cmdWriteSlots, editStaged, accepted, refusal]; ((repeat' split) <;> simp)
@[simp] theorem cmdSetSlotCount_dp (args : List Byte) (s : State) : (cmdSetSlotCount args s).1.dp = s.dp := by
  simp only [cmdSetSlotCount, editStaged, accepted, refusal]; ((repeat' split) <;> simp)
@[simp] theorem cmdCommit_dp (args : List Byte) (s : State) : (cmdCommit args s).1.dp = s.dp := by
  simp only [cmdCommit, accepted, refusal]; ((repeat' split) <;> simp)
@[simp] theorem cmdEngage_dp (args : List Byte) (s : State) : (cmdEngage args s).1.dp = s.dp := by
  simp only [cmdEngage, engage, accepted, refusal]; ((repeat' split) <;> simp)
@[simp] theorem cmdDisengage_dp (args : List Byte) (s : State) : (cmdDisengage args s).1.dp = s.dp := by
  simp only [cmdDisengage, accepted, refusal]; ((repeat' split) <;> simp)
@[simp] theorem cmdQuiesce_dp (args : List Byte) (s : State) : (cmdQuiesce args s).1.dp = s.dp := by
  simp only [cmdQuiesce, quiesce, accepted, refusal]; ((repeat' split) <;> simp)
@[simp] theorem cmdResume_dp (args : List Byte) (s : State) : (cmdResume args s).1.dp = s.dp := by
  simp only [cmdResume, accepted, refusal]; ((repeat' split) <;> simp)
@[simp] theorem cmdSnapshot_dp (args : List Byte) (s : State) : (cmdSnapshot args s).1.dp = s.dp := by
  simp only [cmdSnapshot, accepted, refusal]; ((repeat' split) <;> simp)
@[simp] theorem cmdReadSnapshot_dp (args : List Byte) (s : State) : (cmdReadSnapshot args s).1.dp = s.dp := by
  simp only [cmdReadSnapshot, accepted, refusal]; ((repeat' split) <;> simp)
@[simp] theorem cmdReadEvents_dp (args : List Byte) (s : State) : (cmdReadEvents args s).1.dp = s.dp := by
  simp only [cmdReadEvents, accepted, refusal]; ((repeat' split) <;> simp)
@[simp] theorem cmdReset_dp (args : List Byte) (s : State) : (cmdReset args s).1.dp = s.dp := by
  simp only [cmdReset, accepted, refusal]; ((repeat' split) <;> simp)
@[simp] theorem cmdRevertStaged_dp (args : List Byte) (s : State) : (cmdRevertStaged args s).1.dp = s.dp := by
  simp only [cmdRevertStaged, editStaged, accepted, refusal]; ((repeat' split) <;> simp)
@[simp] theorem cmdStatus_link (args : List Byte) (s : State) : (cmdStatus args s).1.link = s.link := by
  simp only [cmdStatus, accepted, refusal]; ((repeat' split) <;> simp)
@[simp] theorem cmdReadSettings_link (args : List Byte) (s : State) : (cmdReadSettings args s).1.link = s.link := by
  simp only [cmdReadSettings, accepted, refusal]; ((repeat' split) <;> simp)
@[simp] theorem cmdWriteSettings_link (args : List Byte) (s : State) : (cmdWriteSettings args s).1.link = s.link := by
  simp only [cmdWriteSettings, accepted, refusal]; ((repeat' split) <;> simp)
@[simp] theorem cmdReadStream_link (args : List Byte) (s : State) : (cmdReadStream args s).1.link = s.link := by
  simp only [cmdReadStream, accepted, refusal]; ((repeat' split) <;> simp)
@[simp] theorem cmdWriteStream_link (args : List Byte) (s : State) : (cmdWriteStream args s).1.link = s.link := by
  simp only [cmdWriteStream, accepted, refusal]; ((repeat' split) <;> simp)
@[simp] theorem cmdSetStreamState_link (args : List Byte) (s : State) : (cmdSetStreamState args s).1.link = s.link := by
  simp only [cmdSetStreamState, refusal]; ((repeat' split) <;> simp)
@[simp] theorem cmdFlushStream_link (args : List Byte) (s : State) : (cmdFlushStream args s).1.link = s.link := by
  simp only [cmdFlushStream, accepted, refusal]; ((repeat' split) <;> simp)
@[simp] theorem cmdClearFlags_link (args : List Byte) (s : State) : (cmdClearFlags args s).1.link = s.link := by
  simp only [cmdClearFlags, accepted, refusal]; ((repeat' split) <;> simp)
@[simp] theorem cmdReadSlots_link (args : List Byte) (s : State) : (cmdReadSlots args s).1.link = s.link := by
  simp only [cmdReadSlots, accepted, refusal]; ((repeat' split) <;> simp)
@[simp] theorem cmdWriteSlots_link (args : List Byte) (s : State) : (cmdWriteSlots args s).1.link = s.link := by
  simp only [cmdWriteSlots, editStaged, accepted, refusal]; ((repeat' split) <;> simp)
@[simp] theorem cmdSetSlotCount_link (args : List Byte) (s : State) : (cmdSetSlotCount args s).1.link = s.link := by
  simp only [cmdSetSlotCount, editStaged, accepted, refusal]; ((repeat' split) <;> simp)
@[simp] theorem cmdCommit_link (args : List Byte) (s : State) : (cmdCommit args s).1.link = s.link := by
  simp only [cmdCommit, accepted, refusal]; ((repeat' split) <;> simp)
@[simp] theorem cmdEngage_link (args : List Byte) (s : State) : (cmdEngage args s).1.link = s.link := by
  simp only [cmdEngage, engage, accepted, refusal]; ((repeat' split) <;> simp)
@[simp] theorem cmdDisengage_link (args : List Byte) (s : State) : (cmdDisengage args s).1.link = s.link := by
  simp only [cmdDisengage, accepted, refusal]; ((repeat' split) <;> simp)
@[simp] theorem cmdQuiesce_link (args : List Byte) (s : State) : (cmdQuiesce args s).1.link = s.link := by
  simp only [cmdQuiesce, quiesce, accepted, refusal]; ((repeat' split) <;> simp)
@[simp] theorem cmdResume_link (args : List Byte) (s : State) : (cmdResume args s).1.link = s.link := by
  simp only [cmdResume, accepted, refusal]; ((repeat' split) <;> simp)
@[simp] theorem cmdSnapshot_link (args : List Byte) (s : State) : (cmdSnapshot args s).1.link = s.link := by
  simp only [cmdSnapshot, accepted, refusal]; ((repeat' split) <;> simp)
@[simp] theorem cmdReadSnapshot_link (args : List Byte) (s : State) : (cmdReadSnapshot args s).1.link = s.link := by
  simp only [cmdReadSnapshot, accepted, refusal]; ((repeat' split) <;> simp)
@[simp] theorem cmdReadEvents_link (args : List Byte) (s : State) : (cmdReadEvents args s).1.link = s.link := by
  simp only [cmdReadEvents, accepted, refusal]; ((repeat' split) <;> simp)
@[simp] theorem cmdReset_link (args : List Byte) (s : State) : (cmdReset args s).1.link = s.link := by
  simp only [cmdReset, accepted, refusal]; ((repeat' split) <;> simp)
@[simp] theorem cmdRevertStaged_link (args : List Byte) (s : State) : (cmdRevertStaged args s).1.link = s.link := by
  simp only [cmdRevertStaged, editStaged, accepted, refusal]; ((repeat' split) <;> simp)
@[simp] theorem cmdStatus_pending (args : List Byte) (s : State) : (cmdStatus args s).1.pending = s.pending := by
  simp only [cmdStatus, accepted, refusal]; ((repeat' split) <;> simp)
@[simp] theorem cmdReadSettings_pending (args : List Byte) (s : State) : (cmdReadSettings args s).1.pending = s.pending := by
  simp only [cmdReadSettings, accepted, refusal]; ((repeat' split) <;> simp)
@[simp] theorem cmdWriteSettings_pending (args : List Byte) (s : State) : (cmdWriteSettings args s).1.pending = s.pending := by
  simp only [cmdWriteSettings, accepted, refusal]; ((repeat' split) <;> simp)
@[simp] theorem cmdReadStream_pending (args : List Byte) (s : State) : (cmdReadStream args s).1.pending = s.pending := by
  simp only [cmdReadStream, accepted, refusal]; ((repeat' split) <;> simp)
@[simp] theorem cmdWriteStream_pending (args : List Byte) (s : State) : (cmdWriteStream args s).1.pending = s.pending := by
  simp only [cmdWriteStream, accepted, refusal]; ((repeat' split) <;> simp)
@[simp] theorem cmdSetStreamState_pending (args : List Byte) (s : State) : (cmdSetStreamState args s).1.pending = s.pending := by
  simp only [cmdSetStreamState, refusal]; ((repeat' split) <;> simp)
@[simp] theorem cmdFlushStream_pending (args : List Byte) (s : State) : (cmdFlushStream args s).1.pending = s.pending := by
  simp only [cmdFlushStream, accepted, refusal]; ((repeat' split) <;> simp)
@[simp] theorem cmdClearFlags_pending (args : List Byte) (s : State) : (cmdClearFlags args s).1.pending = s.pending := by
  simp only [cmdClearFlags, accepted, refusal]; ((repeat' split) <;> simp)
@[simp] theorem cmdReadSlots_pending (args : List Byte) (s : State) : (cmdReadSlots args s).1.pending = s.pending := by
  simp only [cmdReadSlots, accepted, refusal]; ((repeat' split) <;> simp)
@[simp] theorem cmdWriteSlots_pending (args : List Byte) (s : State) : (cmdWriteSlots args s).1.pending = s.pending := by
  simp only [cmdWriteSlots, editStaged, accepted, refusal]; ((repeat' split) <;> simp)
@[simp] theorem cmdSetSlotCount_pending (args : List Byte) (s : State) : (cmdSetSlotCount args s).1.pending = s.pending := by
  simp only [cmdSetSlotCount, editStaged, accepted, refusal]; ((repeat' split) <;> simp)
@[simp] theorem cmdCommit_pending (args : List Byte) (s : State) : (cmdCommit args s).1.pending = s.pending := by
  simp only [cmdCommit, accepted, refusal]; ((repeat' split) <;> simp)
@[simp] theorem cmdEngage_pending (args : List Byte) (s : State) : (cmdEngage args s).1.pending = s.pending := by
  simp only [cmdEngage, engage, accepted, refusal]; ((repeat' split) <;> simp)
@[simp] theorem cmdDisengage_pending (args : List Byte) (s : State) : (cmdDisengage args s).1.pending = s.pending := by
  simp only [cmdDisengage, accepted, refusal]; ((repeat' split) <;> simp)
@[simp] theorem cmdQuiesce_pending (args : List Byte) (s : State) : (cmdQuiesce args s).1.pending = s.pending := by
  simp only [cmdQuiesce, quiesce, accepted, refusal]; ((repeat' split) <;> simp)
@[simp] theorem cmdResume_pending (args : List Byte) (s : State) : (cmdResume args s).1.pending = s.pending := by
  simp only [cmdResume, accepted, refusal]; ((repeat' split) <;> simp)
@[simp] theorem cmdSnapshot_pending (args : List Byte) (s : State) : (cmdSnapshot args s).1.pending = s.pending := by
  simp only [cmdSnapshot, accepted, refusal]; ((repeat' split) <;> simp)
@[simp] theorem cmdReadSnapshot_pending (args : List Byte) (s : State) : (cmdReadSnapshot args s).1.pending = s.pending := by
  simp only [cmdReadSnapshot, accepted, refusal]; ((repeat' split) <;> simp)
@[simp] theorem cmdReadEvents_pending (args : List Byte) (s : State) : (cmdReadEvents args s).1.pending = s.pending := by
  simp only [cmdReadEvents, accepted, refusal]; ((repeat' split) <;> simp)
@[simp] theorem cmdReset_pending (args : List Byte) (s : State) : (cmdReset args s).1.pending = s.pending := by
  simp only [cmdReset, accepted, refusal]; ((repeat' split) <;> simp)
@[simp] theorem cmdRevertStaged_pending (args : List Byte) (s : State) : (cmdRevertStaged args s).1.pending = s.pending := by
  simp only [cmdRevertStaged, editStaged, accepted, refusal]; ((repeat' split) <;> simp)

end Sys2Proof.Machine
end

