-- ==== Sys2Proof/Laws/Specs.lean ====
section
/-! SUPPORT. What each shared operation can do, said once: the case lemmas that later proofs cite instead of unfolding
the operation. -/
namespace Sys2Proof.Machine
open Sys2Proof

/-! ### Event Queue -/

theorem present_records (r : EventRecord) (s : State) :
    (present r s).events.records = storeRecord s.events.records r := rfl

/-- R130, R131. A presented record is appended, or counted in the OVERFLOW record held, or appends one. -/
theorem storeRecord_cases (rs : List EventRecord) (r : EventRecord) :
    (hasOverflow rs = true ∧ storeRecord rs r = rs.map EventRecord.countLoss)
      ∨ (hasOverflow rs = false ∧ rs.length < 31 ∧ storeRecord rs r = rs ++ [r])
      ∨ (hasOverflow rs = false ∧ 31 ≤ rs.length ∧ storeRecord rs r = rs ++ [r.overflowFor]) := by
  unfold storeRecord numOrdinaryRecords
  cases h : hasOverflow rs
  · by_cases hl : rs.length < 31
    · simp [hl]
    · simp [hl]; omega
  · simp

theorem isOverflow_countLoss (r : EventRecord) : r.countLoss.isOverflow = r.isOverflow := by
  unfold EventRecord.countLoss
  split <;> simp [EventRecord.isOverflow]

theorem isOverflow_overflowFor (r : EventRecord) : r.overflowFor.isOverflow = true := by
  simp [EventRecord.isOverflow, EventRecord.overflowFor]

/-! ### Admission -/

/-- R59. An evaluation stalls, refuses, or accepts into the pass queue or a stream queue, as `judge` says. -/
theorem evaluate_cases (r : UpRequest) (s : State) :
    (judge s r = .stall ∧ evaluate r s = setOffer (some r) s)
      ∨ (∃ reason k, judge s r = .refused reason k
          ∧ evaluate r s = refuseRequest r.initiator r.transaction reason k (setOffer none s))
      ∨ (judge s r = .toPass ∧ evaluate r s = acceptPass r (setOffer none s))
      ∨ (∃ k, judge s r = .toStream k ∧ evaluate r s = acceptStream k r (setOffer none s)) := by
  unfold evaluate
  cases h : judge s r with
  | stall => exact .inl ⟨rfl, rfl⟩
  | refused reason k => exact .inr (.inl ⟨reason, k, rfl, rfl⟩)
  | toPass => exact .inr (.inr (.inl ⟨rfl, rfl⟩))
  | toStream k => exact .inr (.inr (.inr ⟨k, rfl, rfl⟩))

/-- R60, R61, R62, R63. Only in PASS is a request accepted into the pass queue, and only where it fits. -/
theorem judge_toPass {s : State} {r : UpRequest} (h : judge s r = .toPass) :
    s.ctl.mode = .pass ∧ malformed r = false ∧ duplicate s r = false ∧ passFits s r = true := by
  unfold judge judgeStream at h
  repeat' split at h
  all_goals simp_all

/-- R59 to R69. A request is accepted into a stream's queue in ENGAGING and REGULATE, where every step passes. -/
theorem judge_toStream {s : State} {r : UpRequest} {k : StreamId} (h : judge s r = .toStream k) :
    (s.ctl.mode = .engaging ∨ s.ctl.mode = .regulate) ∧ malformed r = false ∧ duplicate s r = false
      ∧ classify s r = some k ∧ ((s.streams.get k).state = .active ∨ (s.streams.get k).state = .paused)
      ∧ overBudget s k r = false ∧ capacity s k r = true := by
  unfold judge judgeStream at h
  repeat' split at h
  all_goals simp_all
  subst h
  constructor
  · cases hm : s.ctl.mode <;> simp_all
  · cases hs : (s.streams.get _).state <;> simp_all

/-- R73. With an EMPTY offer place there is nothing to evaluate again. -/
theorem reevaluate_none {s : State} (h : s.port.offer = none) : reevaluate s = s := by
  simp [reevaluate, h]

theorem reevaluate_some {s : State} {r : UpRequest} (h : s.port.offer = some r) : reevaluate s = evaluate r s := by
  simp [reevaluate, h]

/-! ### Release Engine -/

/-- R100. The tag a release takes is FREE, and every lower one is not. -/
theorem freeTag_some {s : State} {t : Tag} (h : freeTag s = some t) :
    s.table.get t = .free ∧ ∀ u : Tag, u < t → s.table.get u ≠ .free := by
  unfold freeTag at h
  rw [List.find?_eq_some_iff_getElem] at h
  obtain ⟨hf, i, hi, hit, hlt⟩ := h
  have isFree_iff : ∀ e : Entry, e.isFree = true ↔ e = .free := by intro e; cases e <;> simp [Entry.isFree]
  refine ⟨(isFree_iff _).1 hf, fun u hu => ?_⟩
  have hti : t.val = i := by rw [← hit]; simp
  have hul : u.val < i := by rw [← hti]; exact hu
  have := hlt u.val hul
  simp only [List.getElem_finRange, Fin.cast_mk, Fin.eta, Bool.not_eq_true'] at this
  intro e
  rw [e] at this
  exact absurd this (by simp [Entry.isFree])

/-- R78. The three conditions of a release. -/
theorem releaseDue_some {s : State} {w : Winner} {t : Tag} :
    releaseDue s = some (w, t) ↔ s.dp.ready = true ∧ selected s = some w ∧ freeTag s = some t := by
  unfold releaseDue
  cases hr : s.dp.ready <;> cases hs : selected s <;> cases hf : freeTag s <;> simp

/-- R78, R80, R91. A release step releases the pass queue's head or a stream's head, or does nothing. -/
theorem releaseIfDue_cases (s : State) :
    (releaseDue s = none ∧ releaseIfDue s = s)
      ∨ (∃ t, releaseDue s = some (.pass, t) ∧ releaseIfDue s = releasePass t s)
      ∨ (∃ k t, releaseDue s = some (.owner k, t) ∧ releaseIfDue s = releaseStream k false t s)
      ∨ (∃ k t, releaseDue s = some (.roundRobin k, t) ∧ releaseIfDue s = releaseStream k true t s) := by
  unfold releaseIfDue
  rcases h : releaseDue s with _ | ⟨w, t⟩
  · exact .inl ⟨rfl, rfl⟩
  · cases w with
    | pass => exact .inr (.inl ⟨t, rfl, rfl⟩)
    | owner k => exact .inr (.inr (.inl ⟨k, t, rfl, rfl⟩))
    | roundRobin k => exact .inr (.inr (.inr ⟨k, t, rfl, rfl⟩))

/-- R91. What a stream release with request `d` at the head does, what follows from it apart. -/
theorem releaseStream_cons {k : StreamId} {robin : Bool} {t : Tag} {s : State} {d : Descriptor} {rest : List Descriptor}
    (h : queueOf s k = d :: rest) :
    releaseStream k robin t s = reevaluate (quiesceIfDue (closeIfDrained k (sendHead k d rest robin t s))) := by
  simp [releaseStream, h]

theorem releasePass_cons {t : Tag} {s : State} {d : Descriptor} {rest : List Descriptor} (h : s.store.pass = d :: rest) :
    releasePass t s = reevaluate (quiesceIfDue (engageIfDue (sendPass d rest t s))) := by
  simp [releasePass, h]

/-! ### Outstanding Table -/

/-- R101. A response is forwarded, late or unexpected, as the entry its tag names says. -/
theorem arrive_cases (r : DownResponse) (s : State) :
    (∃ h : r.tag.toNat < 48, ∃ e, s.table.get ⟨r.tag.toNat, h⟩ = .inFlight e
        ∧ arrive r s = forward ⟨r.tag.toNat, h⟩ e r s)
      ∨ (∃ h : r.tag.toNat < 48, ∃ e, s.table.get ⟨r.tag.toNat, h⟩ = .orphaned e
        ∧ arrive r s = lateResponse ⟨r.tag.toNat, h⟩ e s)
      ∨ ((∀ h : r.tag.toNat < 48, s.table.get ⟨r.tag.toNat, h⟩ = .free)
        ∧ arrive r s = unexpectedResponse r.tag s) := by
  unfold arrive
  by_cases h : r.tag.toNat < numTags
  · rw [dif_pos h]
    cases he : s.table.get ⟨r.tag.toNat, h⟩ with
    | inFlight e => exact .inl ⟨h, e, he, rfl⟩
    | orphaned e => exact .inr (.inl ⟨h, e, he, rfl⟩)
    | free => exact .inr (.inr ⟨fun _ => he, rfl⟩)
  · rw [dif_neg h]
    exact .inr (.inr ⟨fun h' => absurd h' h, rfl⟩)

/-- R105. An entry expires where it is IN_FLIGHT with an age at or past a non-zero response timeout. -/
theorem expiryDue_some {s : State} {t : Tag} {h : Held} :
    expiryDue s t = some h ↔ s.table.get t = .inFlight h ∧ s.settings.responseTimeout ≠ 0#16
      ∧ s.settings.responseTimeout.toNat ≤ elapsed s.timer.tick h.relTick := by
  unfold expiryDue
  split
  · split <;> simp_all <;> (rintro rfl; simp_all)
  · simp_all

/-! ### Management Link -/

/-- R159. The link after a command: WORKING, with the decided response waiting. -/
theorem respond_link (seq : Byte) (retain : Bool) (run : State → State × Answer) (s : State) :
    (respond seq retain run s).link =
      ((run (placeResponse s)).1.link.decide
        { frame := responseFrame (run (placeResponse s)).2.status seq (run (placeResponse s)).2.payload,
          retain := retain }) := rfl

/-- Apart from the link, a command leaves what its own rule leaves. -/
theorem respond_rest (seq : Byte) (retain : Bool) (run : State → State × Answer) (s : State) (l : Link) :
    (respond seq retain run s).withLink l = (run (placeResponse s)).1.withLink l := rfl

/-- The link after a command that its own rule refuses. -/
theorem respond_refusal (seq : Byte) (st : Status) (s : State) :
    respond seq true (refusal st) s =
      s.withLink (s.link.place.decide { frame := responseFrame st seq [], retain := true }) := rfl

/-- Every command of the block answers a next state. -/
theorem exec_next (c : Instr) (s : State) : ∃ t, exec c s = .next t := by
  cases c <;> first
    | exact ⟨_, rfl⟩
    | (simp only [exec, execRequestOffer]; split <;> exact ⟨_, rfl⟩)
    | (simp only [exec, execMselAssertion]; split <;> exact ⟨_, rfl⟩)
    | (simp only [exec, execMselDeassertion]; split <;> exact ⟨_, rfl⟩)
    | (simp only [exec, execResponseFrameReady]; split <;> exact ⟨_, rfl⟩)
    | (simp only [exec, execByteBoundary]; split <;> exact ⟨_, rfl⟩)

end Sys2Proof.Machine
end

