-- ==== Sys2Proof/Tests/Slice0.lean ====
section
/-! SUPPORT. Tests of the model on fixed values whose expected results stand in the spec, and for every statement with
hypotheses a witness: a concrete state and operands that meet them, clause by clause and at the ends of their ranges. -/
namespace Sys2Proof.Tests
open Sys2Proof Sys2Proof.Machine

set_option Elab.async false

/-! ### Well-formed commands -/

/-- Write data of a length other than the header's: a WRITE of 2 units (bit 50, length at 47–44) with one unit. -/
theorem test_offer_with_missing_data_is_ill_formed :
    (Instr.requestOffer 0x0004200000000000#64 [0#256]).wellFormed = false ∧
    (Instr.requestOffer 0x0004200000000000#64 [0#256, 1#256]).wellFormed = true ∧
    (Instr.requestOffer 0x0000200000000000#64 [0#256]).wellFormed = false := by decide +kernel

/-- A response of 1 unit (bits 24–21) with no data. -/
theorem test_response_with_missing_data_is_ill_formed :
    (Instr.responseArrival 0x00200000#32 []).wellFormed = false ∧
    (Instr.responseArrival 0x00200000#32 [0#256]).wellFormed = true := by decide +kernel

/-- More than 128 argument bytes (R161). -/
theorem test_long_arguments_are_ill_formed :
    (Instr.status 0#8 (List.replicate 129 0#8)).wellFormed = false ∧
    (Instr.writeSlots 0#8 (List.replicate 128 0#8)).wellFormed = true ∧
    (Instr.powerOnReset).wellFormed = true := by decide +kernel

/-! ### Frames and headers written out by hand from 11.2, 12.2 and 12.4 -/

/-- The STATUS frame of 11.2 ends with the CRC byte that chapter 11 gives. -/
theorem test_status_frame : decodeFrame [0x01#8, 0x05#8, 0x00#8, 0x01#8] = .command .status 0x05#8 [] := by decide +kernel

/-- CRC-8 of the nine ASCII digits, the check value of polynomial 07h with initial value FFh (hand calculation). -/
theorem test_crc_check_value :
    crc8 [0x31#8, 0x32#8, 0x33#8, 0x34#8, 0x35#8, 0x36#8, 0x37#8, 0x38#8, 0x39#8] = 0xFB#8 := by decide +kernel

/-- 12.4. I3, transaction A5h, WRITE, group 2, length 4, address A800h: 00011 10100101 1 10 0100, Reserved ones. -/
theorem test_up_request_header :
    decodeUpRequest 0b00011_10100101_1_10_0100_1111111111111_0000000000000001010100000000000#64 [] =
      { initiator := 3#5, transaction := 0xA5#8, kind := .write, unitAddr := 0xA800#31, length := 4, group := 2#2,
        data := [] } := by decide +kernel

/-- 12.4. Tag 47, ERROR, 2 units of data, Reserved ones. -/
theorem test_down_response_header :
    decodeDownResponse 0b101111_1_0010_111111111111111111111#32 [1#256, 2#256] =
      { tag := 47#6, ok := false, data := [1#256, 2#256] } := by decide +kernel

/-- 12.4, 12.5. I31, transaction 80h, REFUSED FULL; and tag 5, WRITE, length 8, address 7Fh. -/
theorem test_sent_headers :
    (UpResponse.header { initiator := 31#5, transaction := 0x80#8, status := .refused .full, data := [] }) =
      0b11111_10000000_11_0101_0000_000000000#32 ∧
    (DownRequest.header { tag := 5, kind := .write, unitAddr := 0x7F#31, length := 8, data := [] }) =
      0b000101_1_1000_0000000000000000000000_0000000000000000000000001111111#64 := by decide +kernel

/-! ### Worked examples of the spec, one command each -/

/-- A stream entry that captures every request of I1: ACTIVE, reload 8, credit 8, queue limit 2. -/
def entry : StreamEntry :=
  { StreamEntry.reset with
    state := .active, initiatorSet := 2#32, pageLimit := 0xFFFFFF#24, reload := 8#16, queueLimit := 2#8, credit := 8 }

/-- A queued READ of I1 at address 0, accepted at tick 0. -/
def held (transaction : Byte) (length : Nat) (seq : Word) : Descriptor :=
  { initiator := 1#5, transaction := transaction, kind := .read, unitAddr := 0#31, length := length, group := 0#2,
    data := [], seq := seq, admTick := 0#32, late := false }

/-- REGULATE with a FREE timer in slot 0 of the reset bank, S0's entry `e` and S0's queue `q`; next sequence 10. -/
def regulated (e : StreamEntry) (q : List Descriptor) : State :=
  { State.reset with
    streams := State.reset.streams.set 0 e
    store := { queues := State.reset.store.queues.set 0 q, pass := [], nextSeq := 10#32 }
    ctl := { Control.reset with mode := .regulate }
    timer := { Timer.reset with state := .free, slot := some 0, down := 1000, frame := 1#32 }
    engine := { pointer := 0, outcome := some { slot := 0, owner := none, released := false, seen := false } } }

/-- The next state of a command, or the state itself where it has none. -/
def after (c : Instr) (s : State) : State := match exec c s with | .next t => t | _ => s

/-- 12.5 "A WRITE_STREAM Frame": reload 96 and carry ON for S5, all else unselected, an unselected kinds byte of 07h
among it; the answer's reload reads 00h 60h, its carry 01h, its cap 00h 00h C0h, for a cap of 192. -/
theorem test_write_stream_frame :
    ((after
        (.writeStream 1#8
          ([0x05#8, 0x00#8, 0x30#8] ++ List.replicate 10 0x00#8 ++ [0x07#8, 0x00#8, 0x60#8, 0x01#8]
            ++ List.replicate 8 0x00#8)) State.reset).link.response.map fun r =>
      (r.frame.take 3, (r.frame.drop 16).take 3, (r.frame.drop 30).take 3)) =
      some ([0x00#8, 0x01#8, 0x23#8], [0x00#8, 0x60#8, 0x01#8], [0x00#8, 0x00#8, 0xC0#8]) := by decide +kernel

/-- The Stream Table of 4.3 "Classification". -/
def classified : State :=
  { regulated { entry with initiatorSet := 4#32 } [] with
    streams :=
      ((((State.reset.streams.set 0 { entry with initiatorSet := 4#32 }).set 1
        { entry with state := .draining, initiatorSet := 0x18#32, pageBase := 0x100#24, pageLimit := 0x1FF#24,
                     kinds := .read }).set 2
        { entry with initiatorSet := 8#32, pageLimit := 0xFFF#24 }).set 3
        { entry with state := .disabled, initiatorSet := 0x20#32, pageLimit := 0xFF#24, credit := 0 })
    settings := { Settings.reset with defaultStream := some 2 } }

/-- A request of the example. -/
def asked (initiator : BitVec 5) (kind : Kind) (unitAddr : BitVec 31) (length : Nat) : UpRequest :=
  { initiator := initiator, transaction := 0#8, kind := kind, unitAddr := unitAddr, length := length, group := 0#2,
    data := [] }

/-- 4.3 "Classification": the streams of requests 1 to 4, and the malformed requests 5 and 6. -/
theorem test_classification_example :
    classify classified (asked 2#5 .write 0x2000#31 4) = some 0 ∧
    classify classified (asked 3#5 .read 0xA800#31 2) = some 1 ∧
    classify classified (asked 3#5 .write 0xA800#31 2) = some 2 ∧
    classify classified (asked 5#5 .read 0x800#31 1) = some 2 ∧
    malformed (asked 4#5 .read 0x7F#31 3) = true ∧ malformed (asked 6#5 .read 0#31 0) = true ∧
    malformed (asked 2#5 .write 0x2000#31 4) = false := by decide +kernel

/-- 4.3, request 2: S1 is DRAINING, so the request is refused CLOSED with stream S1. -/
theorem test_draining_stream_refuses_closed :
    let t := after (.requestOffer (encodeUpRequest (asked 3#5 .read 0xA800#31 2) 0#13) []) classified
    t.port.sent.map (·.status) = [.refused .closed] ∧
    t.events.records.map (fun r => (r.stream, r.detail)) = [(some 1, 4)] := by decide +kernel

/-- 5.7, tick 5000: the owner's head of 8 units leaves as tag 0, charged to a credit of 16. -/
theorem test_owner_release_is_charged :
    let s := regulated { entry with credit := 16, reload := 16#16 } [held 0xA1#8 8 0#32, held 0xA2#8 8 1#32]
    let t := after .release
      { s with
        active := { count := 1, entries := s.active.entries.set 0 ⟨.stream, 0#5, false, 100#12⟩ }
        dp := { ready := true, sent := [] } }
    (t.streams.get 0).credit = 8 ∧ t.dp.sent.map (fun r => (r.tag, r.length)) = [(0, 8)] ∧
    queueOf t 0 = [held 0xA2#8 8 1#32] ∧ t.dp.ready = false := by decide +kernel

/-- 5.7, tick 5120: an open-eligible LEND head of 8 units with a credit of 4 is borrowed, and the credit stays. -/
theorem test_lent_release_is_borrowed :
    let s := regulated { entry with credit := 4, overBudget := .lend, openShare := true } [held 0xC1#8 8 0#32]
    let t := after .release { s with dp := { ready := true, sent := [] } }
    (t.streams.get 0).credit = 4 ∧ (t.stats.streams.get 0).borrowedUnits = 8#32 ∧
    (t.stats.streams.get 0).chargedUnits = 0#32 ∧ t.engine.pointer = 1 := by decide +kernel

/-- 1.5 "Closing a Loaded Stream": B then C are answered FLUSHED, the answer is 2, one REFUSED event for B. -/
theorem test_flush_answers_head_first :
    let t := after (.flushStream 7#8 [0x00#8])
      (regulated { entry with state := .draining } [held 0xB#8 4 0#32, held 0xC#8 4 1#32])
    t.port.sent.map (fun r => (r.transaction, r.status)) = [(0xB#8, .refused .flushed), (0xC#8, .refused .flushed)] ∧
    (t.link.response.map fun r => r.frame.take 4) = some [0x00#8, 0x07#8, 0x01#8, 0x02#8] ∧
    (t.streams.get 0).state = .disabled ∧
    t.events.records.map (fun r => (r.kind, r.detail)) = [(.refused, 7), (.streamClosed, 1)] := by decide +kernel

/-- 8.7, tick 40020: the record that meets 31 ordinary records is lost, and OVERFLOW with a count of 1 is appended. -/
theorem test_overflow_record :
    let r : EventRecord :=
      { kind := .memoryError, stream := none, request := none, detail := 0, frame := 0#32, slot := none, tick := 0#32 }
    let t := recordNow .respTimeout none none 12 none
      (State.reset.withEvents { Events.reset with records := List.replicate 31 r })
    t.events.records.map (fun x => (x.kind, x.detail)) =
      List.replicate 31 (EventKind.memoryError, 0) ++ [(EventKind.overflow, 1)] ∧
    t.stats.globals.eventsLost = 1#32 ∧ attn t = true := by decide +kernel

/-! ### Witnesses: the step and the link -/

/-- The reset state with the receiver in `r` and a frame in the buffer. -/
def linked (r : Receiver) : State :=
  State.reset.withLink
    { receiver := r, response := none, buffer := some (responseFrame .ok 9#8 []), retained := none, mrdy := false }

/-- The reset state with a decided response that waits to be placed. -/
def decided : State :=
  State.reset.withLink
    { Link.reset with receiver := .working, response := some { frame := responseFrame .ok 9#8 [], retain := true } }

theorem test_witness_StepRunsTheFrontCommand :
    (State.reset.withPending [.dpReady, .slotEnd]).pending = .dpReady :: [.slotEnd] ∧ State.reset.pending = [] := by
  decide +kernel

theorem test_witness_CommandFramesRoundTrip :
    ([] : List Byte).length ≤ 128 ∧ (List.replicate 128 0xFF#8).length ≤ 128 ∧
    3 < (encodeFrame .status 5#8 []).length ∧
    131 < (encodeFrame .writeSlots 5#8 (List.replicate 128 0xFF#8)).length := by decide +kernel

theorem test_witness_PortHeadersCarryTheirFields :
    ({ asked 31#5 .write 0#31 15 with transaction := 0xFF#8 } : UpRequest).length ≤ 15 ∧
    (asked 0#5 .read 0#31 0).length ≤ 15 ∧
    ({ tag := 63#6, ok := true, data := List.replicate 15 1#256 } : DownResponse).data.length ≤ 15 ∧
    ({ initiator := 1#5, transaction := 0#8, status := .ok, data := List.replicate 15 1#256 } : UpResponse).data.length
      ≤ 15 ∧
    ({ tag := 47, kind := .write, unitAddr := 0#31, length := 8, data := [] } : DownRequest).length ≤ 8 := by
  decide +kernel

theorem test_witness_LastByteRunsTheCommand :
    (linked (.receiving [0x01#8, 0x05#8, 0x00#8])).link.receiver = .receiving [0x01#8, 0x05#8, 0x00#8] ∧
    ([] : List Byte).length ≤ 128 ∧ [0x01#8, 0x05#8, 0x00#8] ++ [0x01#8] = encodeFrame .status 0x05#8 [] := by
  decide +kernel

theorem test_witness_FaultyFramesAreAnswered :
    (linked (.receiving (0x01#8 :: 0x05#8 :: 0x80#8 :: List.replicate 128 0#8))).link.receiver =
      .receiving (0x01#8 :: 0x05#8 :: 0x80#8 :: List.replicate 128 0#8) ∧
    ((0x80#8).toNat ≤ 128 ∧ (List.replicate 128 0#8).length = (0x80#8).toNat) ∧
    crc8 (0x01#8 :: 0x05#8 :: 0x80#8 :: List.replicate 128 0#8) + 1#8 ≠
      crc8 (0x01#8 :: 0x05#8 :: 0x80#8 :: List.replicate 128 0#8) ∧
    (linked (.receiving [0x00#8, 0x05#8, 0x00#8])).link.receiver = .receiving (0x00#8 :: 0x05#8 :: 0x00#8 :: []) ∧
    (((0x00#8).toNat = 0 ∨ 0x16 < (0x00#8).toNat) ∧ ((0x17#8).toNat = 0 ∨ 0x16 < (0x17#8).toNat)) ∧
    (linked (.receiving [0x01#8, 0x05#8])).link.receiver = .receiving [0x01#8, 0x05#8] ∧ 128 < (0x81#8).toNat :=
  ⟨rfl, by decide +kernel, (by decide +kernel : ∀ c : Byte, c + 1#8 ≠ c) _, rfl, by decide, rfl, by decide⟩

theorem test_witness_ReceiverFollowsTheLines :
    ((linked (.receiving [])).link.receiver = .receiving [] ∧ decodeFrame ([] ++ [0x01#8]) = .incomplete) ∧
    decided.link.response = some { frame := responseFrame .ok 9#8 [], retain := true } ∧
    State.reset.link.response = none ∧ decided.link.receiver = .working ∧
    ((linked (.responding 2)).link.receiver = .responding 2 ∧
      (linked (.responding 2)).link.buffer = some (responseFrame .ok 9#8 []) ∧
      2 < (responseFrame .ok 9#8 []).length ∧ 3 < (responseFrame .ok 9#8 []).length ∧
      (responseFrame .ok 9#8 []).length = 4) ∧
    (linked .done).link.receiver = .done ∧ (linked .idle).link.receiver = .idle ∧
    (linked (.receiving [0x01#8])).link.receiver = .receiving (0x01#8 :: []) := by decide +kernel

theorem test_witness_RepeatLastReturnsTheRetainedResponse :
    (placeResponse decided).link.retained = some (responseFrame .ok 9#8 []) ∧
    (placeResponse State.reset).link.retained = none ∧ ([0#8] : List Byte) ≠ [] ∧
    (∃ t u, exec (.repeatLast 1#8 []) decided = .next t ∧
      (exec .responseFrameReady t = .next u ∨ exec .mselDeassertion t = .next u)) :=
  ⟨by decide +kernel, by decide +kernel, by decide, _, _, rfl, Or.inl rfl⟩

/-! ### Witnesses: settings and streams -/

theorem test_witness_StatusReportsTheState :
    StoreLaw (regulated entry [held 1#8 8 0#32, held 2#8 1 1#32]) ∧
    EventQueueLaw (regulated entry [held 1#8 8 0#32, held 2#8 1 1#32]) := by decide +kernel

/-- Settings away from the reset values. -/
def otherSettings : Settings :=
  { prescaler := .by128, timing := .follow, fsyncOut := true, edge := .falling, q := 15#4, syncTimeout := 65535#16,
    gap := .openAll, defaultStream := some 23, responseTimeout := 65535#16, mask := 31#5 }

/-- Every setting selected, for a running and a STOPPED timer; only settings that any timer takes; refused bytes. -/
theorem test_witness_WriteSettingsWritesTheSelection :
    ((0x03#8 :: 0xFF#8 :: otherSettings.bytes).length = 14 ∧
      field (0x03#8 :: 0xFF#8 :: otherSettings.bytes) 0 2 = (0x3FF#16).toNat ∧ (0x3FF#16).toNat < 1024 ∧
      field (0x03#8 :: 0xFF#8 :: otherSettings.bytes) 13 1 < 32 ∧
      carries settingsLayout 0x3FF#16 otherSettings.bytes ((0x03#8 :: 0xFF#8 :: otherSettings.bytes).drop 2)) ∧
    (((0x3FF#16).getLsbD 0 || (0x3FF#16).getLsbD 1 || (0x3FF#16).getLsbD 3 || (0x3FF#16).getLsbD 4) = true ∧
      (regulated entry []).timer.state ≠ .stopped ∧ State.reset.timer.state = .stopped) ∧
    ((0x3E4#16).getLsbD 0 || (0x3E4#16).getLsbD 1 || (0x3E4#16).getLsbD 3 || (0x3E4#16).getLsbD 4) = false ∧
    ((List.replicate 13 0#8).length ≠ 14 ∧ 1024 ≤ field (0x04#8 :: List.replicate 13 0#8) 0 2 ∧
      32 ≤ field (List.replicate 13 0#8 ++ [0x20#8]) 13 1) := by
  unfold carries
  decide +kernel

/-- The fourth refusal: a selected prescaler byte of 04h is no setting's encoding. -/
theorem test_witness_WriteSettings_out_of_range :
    ∀ (sel : BitVec 16) (new : Settings), field (0x00#8 :: 0x01#8 :: 0x04#8 :: List.replicate 11 0#8) 0 2 = sel.toNat →
      ¬ carries settingsLayout sel new.bytes ((0x00#8 :: 0x01#8 :: 0x04#8 :: List.replicate 11 0#8).drop 2) := by
  intro sel new h c
  obtain rfl : sel = 1#16 := BitVec.eq_of_toNat_eq h.symm
  have := c (0, 0, 1) (by decide) (by decide)
  cases hp : new.prescaler <;> simp [Settings.bytes, hp, Prescaler.code] at this

theorem test_witness_ReadStreamReportsTheEntry :
    (0x17#8).toNat = (23 : StreamId).val ∧ ([] : List Byte).length ≠ 1 ∧ 24 ≤ (0x18#8).toNat ∧
    StoreLaw (regulated entry [held 1#8 8 0#32]) ∧ CreditLaw (regulated entry [held 1#8 8 0#32]) ∧
    LengthLaw (regulated entry [held 1#8 8 0#32]) := by
  refine ⟨by decide, by decide, by decide, by decide +kernel, by decide +kernel, by decide +kernel, fun t => ?_⟩
  rw [show (regulated entry [held 1#8 8 0#32]).table = Table.replicate numTags .free from rfl, Table.get_replicate]
  trivial

/-- A WRITE_STREAM of S0 that selects `sel` and carries the fields of `new`. -/
def streamWrite (sel : BitVec 16) (new : StreamEntry) : List Byte := 0x00#8 :: (bytes16 sel ++ new.configBytes)

/-- What the first stage of a WRITE_STREAM of S0 asks. -/
abbrev wellFormedWrite (s : State) (sel : BitVec 16) (new : StreamEntry) : Prop :=
  (streamWrite sel new).length = 25 ∧ field (streamWrite sel new) 0 1 = (0 : StreamId).val ∧
  field (streamWrite sel new) 1 2 = sel.toNat ∧ sel.toNat < 8192 ∧
  carries streamLayout sel new.configBytes ((streamWrite sel new).drop 3) ∧
  (StreamEntry.choose sel new (s.streams.get 0)).inRanges sel

/-- What the second stage of a WRITE_STREAM of S0 refuses, `e1` being the entry after the write. -/
abbrev refusedWrite (s : State) (sel : BitVec 16) (e1 : StreamEntry) : Prop :=
  ((s.streams.get 0).state ≠ .disabled ∧ (sel.getLsbD 0 || sel.getLsbD 1 || sel.getLsbD 2 || sel.getLsbD 3) = true) ∨
  (sel.getLsbD 9 = true ∧ e1.queueLimit.toNat < (queueOf s 0).length) ∨
  (sel.getLsbD 10 = true ∧
    (128 < ((List.finRange 24).map fun j => ((s.streams.set 0 e1).get j).reserve.toNat).sum ∨
      freeDescriptors s + s.store.pass.length
        < ((List.finRange 24).map fun j => ((s.streams.set 0 e1).get j).reserve.toNat - (queueOf s j).length).sum))

/-- The same of the write of `new`. -/
abbrev refusedByState (s : State) (sel : BitVec 16) (new : StreamEntry) : Prop :=
  refusedWrite s sel (StreamEntry.choose sel new (s.streams.get 0))

/-- REGULATE with two requests queued for S0, and a reserve of 100 for S1. -/
def reserved : State :=
  let s := regulated entry [held 1#8 8 0#32, held 2#8 1 1#32]
  s.withStreams (s.streams.set 1 { StreamEntry.reset with queueLimit := 128#8, reserve := 100#8 })

/-- Every field of a DISABLED stream, written. -/
theorem test_witness_WriteStreamWritesTheSelection :
    wellFormedWrite State.reset 0x1FFF#16 { entry with reserve := 2#8 } ∧
    ¬ refusedByState State.reset 0x1FFF#16 { entry with reserve := 2#8 } := by
  refine ⟨⟨?_, ?_, ?_, ?_, ?_, ?_⟩, ?_⟩ <;> (try unfold carries) <;> (try unfold StreamEntry.inRanges) <;> decide +kernel

/-- A matching field of an ACTIVE stream. -/
theorem test_witness_WriteStream_refused_active :
    wellFormedWrite reserved 0x0008#16 entry ∧ refusedByState reserved 0x0008#16 entry := by
  refine ⟨⟨?_, ?_, ?_, ?_, ?_, ?_⟩, ?_⟩ <;> (try unfold carries) <;> (try unfold StreamEntry.inRanges) <;> decide +kernel

/-- A queue limit of 1 under two queued requests. -/
theorem test_witness_WriteStream_refused_limit :
    wellFormedWrite reserved 0x0200#16 { entry with queueLimit := 1#8 } ∧
    refusedByState reserved 0x0200#16 { entry with queueLimit := 1#8 } := by
  refine ⟨⟨?_, ?_, ?_, ?_, ?_, ?_⟩, ?_⟩ <;> (try unfold carries) <;> (try unfold StreamEntry.inRanges) <;> decide +kernel

/-- Reserves that add up to 129; 28 in place of 29 is taken. -/
theorem test_witness_WriteStream_refused_reserve :
    wellFormedWrite reserved 0x0600#16 { entry with queueLimit := 128#8, reserve := 29#8 } ∧
    refusedByState reserved 0x0600#16 { entry with queueLimit := 128#8, reserve := 29#8 } ∧
    ¬ refusedByState reserved 0x0600#16 { entry with queueLimit := 128#8, reserve := 28#8 } := by
  refine ⟨⟨?_, ?_, ?_, ?_, ?_, ?_⟩, ?_, ?_⟩ <;> (try unfold carries) <;> (try unfold StreamEntry.inRanges) <;> decide +kernel

/-- Bytes of a wrong number, a stream 24, a Reserved selection bit. -/
theorem test_witness_WriteStream_bad_bytes :
    (List.replicate 24 0#8).length ≠ 25 ∧ 24 ≤ field (0x18#8 :: List.replicate 24 0#8) 0 1 ∧
    8192 ≤ field (0x00#8 :: 0x20#8 :: List.replicate 23 0#8) 1 2 := by decide +kernel

/-- The last refusal of the first stage: a selected queue limit of 0. -/
theorem test_witness_WriteStream_out_of_range :
    ∀ (k : StreamId) (sel : BitVec 16) (new : StreamEntry),
      field (streamWrite 0x0200#16 { entry with queueLimit := 0#8 }) 0 1 = k.val →
      field (streamWrite 0x0200#16 { entry with queueLimit := 0#8 }) 1 2 = sel.toNat →
      carries streamLayout sel new.configBytes ((streamWrite 0x0200#16 { entry with queueLimit := 0#8 }).drop 3) →
      ¬ (StreamEntry.choose sel new (State.reset.streams.get k)).inRanges sel := by
  intro k sel new _ h c r
  obtain rfl : sel = 0x200#16 := BitVec.eq_of_toNat_eq h.symm
  have hq : [0#8] = [new.queueLimit] := c (9, 17, 1) (by decide) (by decide)
  have := (r.1 (by decide)).1
  simp [StreamEntry.choose, ← (List.cons.inj hq).1] at this

/-- S0 in the state `st` with the queue `q`, in REGULATE. -/
def streamIn (st : StreamState) (q : List Descriptor) : State := regulated { entry with state := st } q

/-- A request of S0 in flight under tag 0, released at tick 0. -/
def flying : Held :=
  { initiator := 1#5, transaction := 0x77#8, stream := .stream 0, kind := .read, length := 8, admTick := 0#32,
    relTick := 0#32 }

/-- `s` with `e` in entry 0 of the Outstanding Table. -/
def withEntry (e : Entry) (s : State) : State := s.withTable (s.table.set 0 e)

/-- Each cell of R8: the state and the target, both names of the 24 streams, an entry without and with a window. -/
theorem test_witness_SetStreamStateFollowsTheTable :
    ((0x17#8).toNat = (23 : StreamId).val ∧ 0x03#8 = StreamState.code .draining) ∧
    ((streamIn .draining []).streams.get 0).state = .draining ∧
    ((State.reset.streams.get 0).state = .disabled ∧ (State.reset.streams.get 0).initiatorSet = 0#32) ∧
    (((streamIn .disabled []).streams.get 0).state = .disabled ∧
      ((streamIn .disabled []).streams.get 0).initiatorSet ≠ 0#32 ∧
      ((streamIn .disabled []).streams.get 0).pageBase.toNat ≤ ((streamIn .disabled []).streams.get 0).pageLimit.toNat) ∧
    ((streamIn .paused []).streams.get 0).state = .paused ∧
    (((streamIn .active []).streams.get 0).state = .active ∧ queueOf (streamIn .active []) 0 = [] ∧
      inFlightCount (streamIn .active []) 0 = 0) ∧
    queueOf (streamIn .active [held 1#8 1 0#32]) 0 ≠ [] ∧
    inFlightCount (withEntry (.inFlight flying) (streamIn .active [])) 0 ≠ 0 ∧
    (([0x00#8] : List Byte).length ≠ 2 ∧ 24 ≤ (0x18#8).toNat ∧ 4 ≤ (0x04#8).toNat) := by decide +kernel

theorem test_witness_FlushAnswersTheWholeQueue :
    (0x17#8).toNat = (23 : StreamId).val ∧ ([] : List Byte).length ≠ 1 ∧ 24 ≤ (0x18#8).toNat := by decide

theorem test_witness_ClearFlagsClearsTheSelection :
    (0x1F#8).toNat < 32 ∧ (0x17#8).toNat = (23 : StreamId).val ∧ 8 ≤ (0x08#8).toNat ∧ (0x07#8).toNat < 8 ∧
    ((0x04#8).getLsbD 0 || (0x04#8).getLsbD 1 || (0x04#8).getLsbD 2) = true ∧
    ((0x18#8).getLsbD 0 || (0x18#8).getLsbD 1 || (0x18#8).getLsbD 2) = false ∧
    (24 ≤ (0x18#8).toNat ∧ 0x18#8 ≠ 0x40#8 ∧ 0x18#8 ≠ 0x41#8) ∧ (24 ≤ (0x42#8).toNat ∧ 0x42#8 ≠ 0x41#8) ∧
    ([0x00#8] : List Byte).length ≠ 2 ∧ 32 ≤ (0x20#8).toNat := by decide

/-! ### Witnesses: schedule and modes -/

/-- The state `s` with the pending operation `op`. -/
def pendingIn (op : PendingOp) (s : State) : State := s.withCtl { s.ctl with pendingOp := op }

/-- The reset bank with the slot count `n` and slot 0 replaced by `e`. -/
def bankOf (n : Nat) (e : SlotEntry) : Bank := { count := n, entries := Bank.reset.entries.set 0 e }

theorem test_witness_ReadSlotsReportsTheBank :
    ((47#8).toNat ≤ 47 ∧ 1 ≤ (1#8).toNat ∧ (47#8).toNat + (1#8).toNat ≤ 48) ∧
    ((32#8).toNat ≤ 47 ∧ (16#8).toNat ≤ 16 ∧ (32#8).toNat + (16#8).toNat ≤ 48) ∧
    (1 < (2#8).toNat ∧ 47 < (48#8).toNat ∧ (0#8).toNat = 0 ∧ 16 < (17#8).toNat ∧ 48 < (33#8).toNat + (16#8).toNat) ∧
    ([] : List Byte).length ≠ 3 ∧ (15 < (16#8).toNat ∧ (47 : SlotId).val = (32#8).toNat + 15) := by decide

/-- Sixteen entries ending with slot 47, with the staged bank locked and not; then bytes that no entries make. -/
theorem test_witness_WriteSlotsReplacesTheEntries :
    (32#8 :: 16#8 :: (List.replicate 16 (⟨.stream, 23#5, true, 4095#12⟩ : SlotEntry)).flatMap SlotEntry.bytes =
        32#8 :: 16#8 :: (List.replicate 16 (⟨.stream, 23#5, true, 4095#12⟩ : SlotEntry)).flatMap SlotEntry.bytes ∧
      (List.replicate 16 (⟨.stream, 23#5, true, 4095#12⟩ : SlotEntry)).length = (16#8).toNat ∧
      1 ≤ (16#8).toNat ∧ (16#8).toNat ≤ 16 ∧ (32#8).toNat + (16#8).toNat ≤ 48 ∧
      ∀ e ∈ List.replicate 16 (⟨.stream, 23#5, true, 4095#12⟩ : SlotEntry), e.owner = .stream ∨ e.number = 0#5) ∧
    (pendingIn .commit (regulated entry [])).ctl.pendingOp = .commit ∧ State.reset.ctl.pendingOp ≠ .commit ∧
    ¬ ∃ (first count : Byte) (es : List SlotEntry),
      ([] : List Byte) = first :: count :: es.flatMap SlotEntry.bytes ∧ es.length = count.toNat ∧
      1 ≤ count.toNat ∧ count.toNat ≤ 16 ∧ first.toNat + count.toNat ≤ 48 ∧
      ∀ e ∈ es, e.owner = .stream ∨ e.number = 0#5 :=
  ⟨by decide +kernel, rfl, (nofun), fun ⟨_, _, _, h, _⟩ => nomatch h⟩

theorem test_witness_SetSlotCountSetsTheStagedCount :
    48 < (49#8).toNat ∧ (48#8).toNat ≤ 48 ∧ (pendingIn .commit (regulated entry [])).ctl.pendingOp = .commit ∧
    State.reset.ctl.pendingOp ≠ .commit ∧ ([] : List Byte).length ≠ 1 := by decide +kernel

theorem test_witness_RevertStagedCopiesTheActiveBank :
    (pendingIn .commit (regulated entry [])).ctl.pendingOp = .commit ∧ State.reset.ctl.pendingOp ≠ .commit ∧
    ([0#8] : List Byte) ≠ [] := by decide +kernel

/-- Counts 0 and 49; slot 0 of length 0, and owned by stream 24; 17 slots of 4095 ticks make 69615. -/
theorem test_witness_ValidationReportsTheFirstFailure :
    ({ Bank.reset with count := 0 } : Bank).count = 0 ∧ 48 < ({ Bank.reset with count := 49 } : Bank).count ∧
    ((bankOf 48 ⟨.stream, 24#5, false, 1#12⟩).count ≤ 48 ∧
      (((bankOf 48 ⟨.stream, 24#5, false, 1#12⟩).entries.get 0).owner = .stream ∧
        24 ≤ ((bankOf 48 ⟨.stream, 24#5, false, 1#12⟩).entries.get 0).number.toNat) ∧ ∀ i < (0 : SlotId), False) ∧
    ((bankOf 1 ⟨.quiet, 0#5, false, 0#12⟩).entries.get 0).length = 0#12 ∧
    (∀ j : SlotId, ¬ (((⟨48, Table.replicate 48 ⟨.quiet, 0#5, false, 4095#12⟩⟩ : Bank).entries.get j).length = 0#12 ∨
      ((⟨48, Table.replicate 48 ⟨.quiet, 0#5, false, 4095#12⟩⟩ : Bank).entries.get j).owner = .stream)) ∧
    65535 < (((List.finRange 48).filter fun j => j.val < 17).map fun j =>
      ((⟨17, Table.replicate 48 ⟨.quiet, 0#5, false, 4095#12⟩⟩ : Bank).entries.get j).length.toNat).sum := by
  decide +kernel

theorem test_witness_CommitIsDecidedInOrder :
    ([0#8] : List Byte) ≠ [] ∧ (pendingIn .commit (regulated entry [])).ctl.pendingOp ≠ .none ∧
    State.reset.ctl.pendingOp = .none ∧
    (State.reset.withStaged (bankOf 1 ⟨.quiet, 0#5, false, 0#12⟩)).staged.fault = some (.length, 0x00#8) ∧
    (State.reset.staged.fault = none ∧ State.reset.timer.state = .stopped) ∧
    ((regulated entry []).ctl.pendingOp = .none ∧ (regulated entry []).staged.fault = none ∧
      (regulated entry []).timer.state ≠ .stopped) := by decide +kernel

/-- PASS with one request in the pass queue. -/
def loadedPass : State := State.reset.withStore { Store.reset with pass := [held 1#8 8 0#32] }

theorem test_witness_EngageStartsOrWaits :
    (State.reset.ctl.mode = .pass ∧ State.reset.ctl.pendingOp = .none ∧ State.reset.store.pass = [] ∧
      State.reset.settings.timing = .source) ∧
    (loadedPass.ctl.mode = .pass ∧ loadedPass.ctl.pendingOp = .none ∧ loadedPass.store.pass ≠ []) ∧
    (State.reset.withSettings otherSettings).settings.timing = .follow := by decide +kernel

/-- `s` in the mode `m`, with the return mode `back` and the pending operation `op`. -/
def inMode (m : Mode) (back : ReturnMode) (op : PendingOp) (s : State) : State :=
  s.withCtl { s.ctl with mode := m, returnMode := back, pendingOp := op }

theorem test_witness_DisengageMergesInAdmissionOrder :
    State.reset.ctl.mode = .pass ∧ (inMode .engaging .pass .engage loadedPass).ctl.mode = .engaging ∧
    (pendingIn .commit (regulated entry [held 1#8 8 0#32])).ctl.mode = .regulate ∧
    (pendingIn .commit (regulated entry [held 1#8 8 0#32])).ctl.pendingOp = .commit := by decide +kernel

theorem test_witness_QuiesceAndResume :
    (State.reset.ctl.mode = ReturnMode.mode .pass ∧ State.reset.ctl.pendingOp = .none ∧
      (∀ t : Tag, (State.reset.table.get t).isInFlight = false) ∧ State.reset.store.pass = []) ∧
    loadedPass.store.pass ≠ [] ∧
    ((regulated entry [held 1#8 8 0#32]).ctl.mode = ReturnMode.mode .regulate ∧
      ¬ ∀ k : StreamId, queueOf (regulated entry [held 1#8 8 0#32]) k = [] ∨
        ((regulated entry [held 1#8 8 0#32]).streams.get k).state = .paused) ∧
    (∀ k : StreamId, queueOf (streamIn .paused [held 1#8 8 0#32]) k = [] ∨
      ((streamIn .paused [held 1#8 8 0#32]).streams.get k).state = .paused) ∧
    ((inMode .quiescing .regulate .quiesce (regulated entry [])).ctl.returnMode = .regulate ∧
      (inMode .quiescing .regulate .quiesce (regulated entry [])).ctl.mode = .quiescing ∧
      (inMode .quiesced .regulate .none (regulated entry [])).ctl.mode = .quiesced) := by decide +kernel

theorem test_witness_ModeTableRefusals :
    ((inMode .engaging .pass .engage loadedPass).ctl.mode = .engaging ∧
      (inMode .engaging .pass .engage loadedPass).ctl.pendingOp = .engage) ∧
    ((regulated entry []).ctl.mode = .regulate ∧ (regulated entry []).ctl.pendingOp = .none ∧
      (pendingIn .commit (regulated entry [])).ctl.pendingOp = .commit) ∧
    ((inMode .quiescing .pass .quiesce loadedPass).ctl.mode = .quiescing ∧
      (inMode .quiescing .pass .quiesce loadedPass).ctl.pendingOp = .quiesce) ∧
    ((inMode .quiesced .pass .none State.reset).ctl.mode = .quiesced ∧
      (inMode .quiesced .pass .none State.reset).ctl.pendingOp = .none) ∧
    ((inMode .quiesced .regulate .commit (regulated entry [])).ctl.mode = .quiesced ∧
      (inMode .quiesced .regulate .commit (regulated entry [])).ctl.pendingOp = .commit) := by decide +kernel

/-! ### Witnesses: statistics, events, resets -/

/-- An event record of kind `k`. -/
def record (k : EventKind) (detail : Nat) : EventRecord :=
  { kind := k, stream := none, request := none, detail := detail, frame := 0#32, slot := none, tick := 0#32 }

/-- The reset state with `records` in the Event Queue. -/
def recorded (records : List EventRecord) : State := State.reset.withEvents { Events.reset with records := records }

/-- A state with a valid snapshot buffer. -/
def snapped : State :=
  State.reset.withStats
    { Stats.reset with snapshot := some { copy := .stream 23 StreamStats.reset, frame := 1#32, tick := 2#32 } }

theorem test_witness_SnapshotCapturesOneGroup :
    ((0x17#8).toNat = (23 : StreamId).val ∧ (1#8).toNat ≤ 1) ∧ 1 < (2#8).toNat ∧
    (24 ≤ (0x18#8).toNat ∧ 0x18#8 ≠ 0x40#8) ∧ ([] : List Byte).length ≠ 2 ∧ State.reset.stats.snapshot = none ∧
    snapped.stats.snapshot = some { copy := .stream 23 StreamStats.reset, frame := 1#32, tick := 2#32 } ∧
    15 < (GroupCopy.stream 23 StreamStats.reset).counters.length ∧
    11 < (GroupCopy.global GlobalStats.reset).counters.length := by decide +kernel

/-- No records; three records of which two are taken; three of which eight are asked for. -/
theorem test_witness_ReadEventsTakesTheOldest :
    (([] : List Byte).length ≠ 1 ∧ (0#8).toNat = 0 ∧ 8 < (9#8).toNat) ∧
    (1 ≤ (1#8).toNat ∧ (8#8).toNat ≤ 8 ∧ State.reset.events.records = []) ∧
    ((recorded [record .engaged 0, record .commitDone 1, record .respTimeout 2]).events.records =
        [record .engaged 0, record .commitDone 1] ++ [record .respTimeout 2] ∧
      [record .engaged 0, record .commitDone 1] ≠ [] ∧
      [record .engaged 0, record .commitDone 1].length =
        min (2#8).toNat (recorded [record .engaged 0, record .commitDone 1, record .respTimeout 2]).events.records.length) ∧
    [record .engaged 0].length = min (8#8).toNat (recorded [record .engaged 0]).events.records.length ∧
    ([record .engaged 0, record .commitDone 1][1]? = some (record .commitDone 1) ∧
      (record .commitDone 1).detail < 2 ^ 24 ∧ (record .late 16777215).detail < 2 ^ 24) := by
  decide +kernel

/-- Table 12-7. LATE of S5, I3 transaction 7, detail 010203h, frame 2, no slot, tick 9: the first two bytes are
00001 00101 111111, then 03h 07h. -/
theorem test_event_record_bytes :
    ({ kind := .late, stream := some 5, request := some (3#5, 7#8), detail := 0x010203, frame := 2#32, slot := none,
       tick := 9#32 } : EventRecord).bytes =
      [0x09#8, 0x7F#8, 0x03#8, 0x07#8, 0x01#8, 0x02#8, 0x03#8, 0#8, 0#8, 0#8, 2#8, 0#8, 0#8, 0#8, 9#8] := by decide +kernel

/-- A RESET that refuses a stream-queued and a pass-queued request; the entry of one in flight. -/
theorem test_witness_OutstandingTableAtTheResets :
    exec .powerOnReset (withEntry (.inFlight flying) loadedPass) =
      .next (after .powerOnReset (withEntry (.inFlight flying) loadedPass)) ∧
    exec (.reset 1#8 []) (withEntry (.orphaned flying) loadedPass) =
      .next (after (.reset 1#8 []) (withEntry (.orphaned flying) loadedPass)) := ⟨rfl, rfl⟩

/-! ### Witnesses: time -/

/-- FOLLOW timing in the timer state `st` and the slot `k` of `bank`, with `down` ticks left and the qualifier `q`. -/
def following (st : TimerState) (k : Option SlotId) (down : Nat) (q : Qualifier) (bank : Bank) : State :=
  { regulated entry [] with
    active := bank
    settings := { Settings.reset with timing := .follow, syncTimeout := 5#16 }
    timer := { Timer.reset with state := st, slot := k, down := down, qualifier := q, waitCount := 0 }
    engine := { pointer := 0, outcome := none } }

/-- A wait of `n` ticks in WAIT_SYNC with the sync timeout `timeout`. -/
def waiting (n : Nat) (timeout : BitVec 16) : State :=
  { following .waitSync none 0 .idle Bank.reset with
    settings := { Settings.reset with timing := .follow, syncTimeout := timeout }
    timer := { Timer.reset with state := .waitSync, waitCount := n } }

/-- The level of the sample, the reference and the input of a running qualifier `q`. -/
def sampled (sample reference : Level) (q : Qualifier) : State :=
  let s := following .locked (some 0) 9 q Bank.reset
  s.withTimer { s.timer with sample := sample, reference := reference }

theorem test_witness_TickAdvancesTheTimer :
    nothingDue State.reset = true ∧ nothingDue (regulated entry [held 1#8 8 0#32]) = true ∧
    nothingDue (sampled .high .low (.qualifying 1)) = true ∧ nothingDue (waiting 4 5#16) = true := by
  decide +kernel

/-- The FSYNC output: driven in a pulse and outside one, not driven under FOLLOW and with the output OFF. -/
theorem test_witness_FrameStartDoesItsParts :
    let on := State.reset.withSettings { Settings.reset with fsyncOut := true }
    (on.settings.timing = .source ∧ on.settings.fsyncOut = true ∧ on.timer.pulse = false ∧
      (on.withTimer { Timer.reset with pulse := true }).timer.pulse = true) ∧
    (State.reset.withSettings otherSettings).settings.timing = .follow ∧ State.reset.settings.fsyncOut = false := by
  decide +kernel

/-- A slot owned by S0 at its end: used, idle, and blocked with S0's queue and entry as given. -/
def ending (released seen : Bool) (e : StreamEntry) (q : List Descriptor) : State :=
  { regulated e q with
    active := bankOf 2 ⟨.stream, 0#5, false, 100#12⟩
    timer := { Timer.reset with state := .free, slot := some 0, down := 0, frame := 1#32 }
    engine := { pointer := 0, outcome := some { slot := 0, owner := some 0, released := released, seen := seen } } }

/-- The slots without a record and without an owner, each class of an owned slot, and both sides of the credit. -/
theorem test_witness_SlotEndClassifiesAndGivesWay :
    State.reset.engine.outcome = none ∧
    (regulated entry []).engine.outcome = some { slot := 0, owner := none, released := false, seen := false } ∧
    (ending true true entry []).engine.outcome = some { slot := 0, owner := some 0, released := true, seen := true } ∧
    (queueOf (ending false true { entry with credit := 7 } [held 1#8 8 0#32]) 0 = held 1#8 8 0#32 :: [] ∧
      ((ending false true { entry with credit := 7 } [held 1#8 8 0#32]).streams.get 0).credit < (held 1#8 8 0#32).length ∧
      ((ending false true { entry with credit := 7 } [held 1#8 8 0#32]).streams.get 0).heldSeen = false) ∧
    (held 1#8 8 0#32).length ≤ ((ending false true entry [held 1#8 8 0#32]).streams.get 0).credit ∧
    ((ending false true { entry with heldSeen := true } []).streams.get 0).heldSeen = true ∧
    ((0 : SlotId).val + 1 < 48 ∧ (ending true true entry []).timer.state ≠ .stopped ∧
      (ending true true entry []).timer.slot = some 0 ∧ (ending true true entry []).timer.down = 0 ∧
      (0 : SlotId).val + 1 < (ending true true entry []).active.count) ∧
    (State.reset.timer.state = .stopped ∧ 0 < (following .locked (some 0) 1 .idle Bank.reset).timer.down) ∧
    ((⟨.stream, 23#5, false, 1#12⟩ : SlotEntry).owner = .stream ∧
      (⟨.stream, 23#5, false, 1#12⟩ : SlotEntry).number.toNat = (23 : StreamId).val ∧
      (⟨.openAll, 0#5, false, 1#12⟩ : SlotEntry).owner = .openAll ∧
      (⟨.quiet, 0#5, false, 1#12⟩ : SlotEntry).owner = .quiet) := by
  decide +kernel

/-- A TICK at the end of slot 0 with SLOT_END left over: the slot end is taken first, and slot 1 runs (log entry 2). -/
theorem test_tick_settles_first :
    nothingDue (ending true true entry []) = false ∧ (settled (ending true true entry [])).timer.slot = some 1 ∧
    (after (.tick .low) (ending true true entry [])).timer.slot = some 1 := by decide +kernel

/-- The last slot of a bank of 1 and of a bank of 48. -/
theorem test_witness_LastSlotEndsByTimerState :
    ((following .locked (some 0) 0 .idle Bank.reset).timer.slot = some 0 ∧
      (following .locked (some 0) 0 .idle Bank.reset).timer.down = 0 ∧
      (following .locked (some 0) 0 .idle Bank.reset).active.count ≤ (0 : SlotId).val + 1 ∧
      (following .locked (some 0) 0 .idle Bank.reset).timer.state = .locked) ∧
    ((following .holdover (some 47) 0 .idle (bankOf 48 ⟨.quiet, 0#5, false, 1#12⟩)).active.count ≤ (47 : SlotId).val + 1 ∧
      (following .holdover (some 47) 0 .idle (bankOf 48 ⟨.quiet, 0#5, false, 1#12⟩)).timer.state = .holdover) ∧
    (following .free (some 0) 0 .idle Bank.reset).timer.state = .free := by decide +kernel

/-- A count equal to Q and one below it, in each timer state; the last slot and one before it. -/
theorem test_witness_SyncQualificationActsByTimerState :
    ((following .waitSync none 0 (.qualifying 2) Bank.reset).timer.qualifier = .qualifying 2 ∧
      (following .waitSync none 0 (.qualifying 2) Bank.reset).settings.q.toNat ≤ 2 ∧
      (following .waitSync none 0 (.qualifying 2) Bank.reset).timer.state = .waitSync) ∧
    (following .holdover (some 0) 3 (.qualifying 2) Bank.reset).timer.state = .holdover ∧
    ((following .locked (some 0) 3 (.qualifying 2) Bank.reset).timer.slot = some 0 ∧
      (following .locked (some 0) 3 (.qualifying 2) Bank.reset).active.count ≤ (0 : SlotId).val + 1 ∧
      (0 : SlotId).val + 1 < (following .locked (some 0) 3 (.qualifying 2) (bankOf 2 ⟨.quiet, 0#5, false, 9#12⟩)).active.count) ∧
    State.reset.events.earlySeen = false ∧ ({ Events.reset with earlySeen := true } : Events).earlySeen = true ∧
    ((following .locked (some 0) 3 (.qualifying 1) Bank.reset).timer.qualifier = .qualifying 1 ∧
      1 < (following .locked (some 0) 3 (.qualifying 1) Bank.reset).settings.q.toNat) ∧
    State.reset.timer.qualifier = .idle ∧ State.reset.timer.state = .stopped := by decide +kernel

theorem test_witness_SyncTimeoutExpiryEntersHoldover :
    ((waiting 5 5#16).timer.state = .waitSync ∧ (waiting 5 5#16).settings.syncTimeout ≠ 0#16 ∧
      (waiting 5 5#16).settings.syncTimeout.toNat ≤ (waiting 5 5#16).timer.waitCount) ∧
    (waiting 4 5#16).timer.waitCount < (waiting 4 5#16).settings.syncTimeout.toNat ∧
    (waiting 65535 0#16).settings.syncTimeout = 0#16 ∧ State.reset.timer.state ≠ .waitSync := by decide +kernel

/-- The three events that start a frame, each due with a commit pending. -/
theorem test_witness_CommitCompletesAtAFrameStart :
    ((pendingIn .commit (following .locked (some 0) 3 (.qualifying 2) Bank.reset)).ctl.pendingOp = .commit ∧
      (following .locked (some 0) 3 (.qualifying 2) Bank.reset).timer.state = .locked ∧
      (following .locked (some 0) 3 (.qualifying 2) Bank.reset).timer.qualifier = .qualifying 2 ∧
      (following .locked (some 0) 3 (.qualifying 2) Bank.reset).settings.q.toNat ≤ 2 ∧
      (following .locked (some 0) 3 (.qualifying 2) Bank.reset).active.count ≤ (0 : SlotId).val + 1) ∧
    ((following .holdover (some 0) 3 (.qualifying 2) Bank.reset).timer.state = .holdover ∧
      (following .waitSync none 0 (.qualifying 2) Bank.reset).timer.state = .waitSync) ∧
    ((pendingIn .commit (following .free (some 0) 0 .idle Bank.reset)).timer.state = .free ∧
      (pendingIn .commit (following .free (some 0) 0 .idle Bank.reset)).timer.slot = some 0 ∧
      (pendingIn .commit (following .free (some 0) 0 .idle Bank.reset)).timer.down = 0) ∧
    ((waiting 5 5#16).timer.state = .waitSync ∧ (waiting 5 5#16).timer.slot = none ∧
      (waiting 5 5#16).settings.syncTimeout ≠ 0#16 ∧
      (waiting 5 5#16).settings.syncTimeout.toNat ≤ (waiting 5 5#16).timer.waitCount) ∧
    State.reset.ctl.pendingOp ≠ .commit := by decide +kernel

/-- No qualification is due in the last two of them. -/
theorem test_witness_CommitCompletes_without_qualification :
    (¬ ∃ c : Nat, (following .free (some 0) 0 .idle Bank.reset).timer.qualifier = .qualifying c ∧
      (following .free (some 0) 0 .idle Bank.reset).settings.q.toNat ≤ c) ∧
    ¬ ∃ c : Nat, (waiting 5 5#16).timer.qualifier = .qualifying c ∧ (waiting 5 5#16).settings.q.toNat ≤ c :=
  ⟨fun ⟨_, h, _⟩ => (nomatch h), fun ⟨_, h, _⟩ => (nomatch h)⟩

theorem test_witness_FsyncChangeIsJudged :
    (Level.high ≠ State.reset.timer.sample ∧ State.reset.timer.state = .stopped) ∧
    ((sampled .high .high .idle).timer.qualifier = .idle ∧ Level.high = (sampled .high .high .idle).timer.reference) ∧
    (Level.high = (sampled .high .low .idle).timer.sample ∧ Level.high ≠ (sampled .high .low .idle).timer.reference ∧
      (sampled .high .low .idle).settings.edge = .rising) ∧
    (Level.low = (sampled .low .high .idle).timer.sample ∧ Level.low ≠ (sampled .low .high .idle).timer.reference ∧
      (sampled .low .high .idle).timer.state = .locked) ∧
    ((sampled .high .low (.qualifying 1)).timer.qualifier = .qualifying 1 ∧
      Level.low = (sampled .low .low (.qualifying 1)).timer.sample ∧
      Level.low = (sampled .low .low (.qualifying 1)).timer.reference) := by decide +kernel

/-! ### Witnesses: admission -/

/-- The header of a READ of I1 at `a`, of length `n`, with transaction 01h. -/
def readHeader (a : BitVec 31) (n : Nat) : BitVec 64 := encodeUpRequest { asked 1#5 .read a n with transaction := 1#8 } 0#13

/-- Lengths 0, 9 and 15, a page crossing and the request that ends at its page's last unit. -/
theorem test_witness_MalformedRequestsAreRefused :
    (State.reset.port.offer = none ∧ State.reset.ctl.mode.admits = true) ∧
    (malformed (decodeUpRequest (readHeader 0#31 0) []) = true ∧ malformed (decodeUpRequest (readHeader 0#31 9) []) = true ∧
      malformed (decodeUpRequest (readHeader 0#31 15) []) = true ∧
      malformed (decodeUpRequest (readHeader 121#31 8) []) = true ∧
      malformed (decodeUpRequest (readHeader 120#31 8) []) = false) ∧
    (State.reset.events.portRefuseSeen = false ∧
      ({ Events.reset with portRefuseSeen := true } : Events).portRefuseSeen = true) := by decide +kernel

/-- An OCCUPIED place, a quiesce, the tag held queued, in the pass queue and in flight, and a request of no stream. -/
theorem test_witness_OffersPassTheGates :
    ({ offer := some (asked 1#5 .read 0#31 1), sent := [] } : Port).offer ≠ none ∧
    (inMode .quiescing .pass .quiesce State.reset).ctl.mode = .quiescing ∧
    (inMode .quiesced .pass .none State.reset).ctl.mode = .quiesced ∧
    ((held 1#8 8 0#32 ∈ queueOf (regulated entry [held 1#8 8 0#32]) 0 ∧ held 1#8 8 0#32 ∈ loadedPass.store.pass) ∧
      (decodeUpRequest (readHeader 0#31 1) []).initiator = (held 1#8 8 0#32).initiator ∧
      (decodeUpRequest (readHeader 0#31 1) []).transaction = (held 1#8 8 0#32).transaction) ∧
    ((withEntry (.inFlight { flying with transaction := 1#8 }) State.reset).table.get 0 =
        .inFlight { flying with transaction := 1#8 }) ∧
    ((∀ k : StreamId, queueOf (regulated { entry with initiatorSet := 4#32 } []) k = []) ∧
      (regulated { entry with initiatorSet := 4#32 } []).store.pass = [] ∧
      (∀ t : Tag, (regulated { entry with initiatorSet := 4#32 } []).table.get t = .free) ∧
      State.reset.events.portRefuseSeen = false ∧
      ({ Events.reset with portRefuseSeen := true } : Events).portRefuseSeen = true) ∧
    (malformed (decodeUpRequest (readHeader 0#31 1) []) = false ∧
      (regulated { entry with initiatorSet := 4#32 } []).port.offer = none ∧
      (regulated { entry with initiatorSet := 4#32 } []).ctl.mode.admits = true ∧
      (regulated { entry with initiatorSet := 4#32 } []).ctl.mode ≠ .pass ∧
      classify (regulated { entry with initiatorSet := 4#32 } []) (decodeUpRequest (readHeader 0#31 1) []) = none) := by
  decide +kernel

/-- A pass queue that holds `n` READs. -/
def passOf (n : Nat) : State := State.reset.withStore { Store.reset with pass := List.replicate n (held 9#8 8 0#32) }

/-- 127 and 128 descriptors held; a WRITE of 8 units with the pool's 384 units free. -/
theorem test_witness_PassAdmitsWhatFits :
    ((passOf 127).ctl.mode = .pass ∧ (passOf 127).port.offer = none ∧
      malformed (decodeUpRequest (readHeader 0#31 8) []) = false ∧
      duplicate (passOf 127) (decodeUpRequest (readHeader 0#31 8) []) = false) ∧
    1 ≤ freeDescriptors (passOf 127) ∧ ¬ 1 ≤ freeDescriptors (passOf 128) ∧
    8 ≤ freeUnits State.reset := by decide +kernel

/-- The match of 4.3's request 2, with the first page of S1's window and the last of it, and its request without one. -/
theorem test_witness_ClassificationTakesTheFirstMatch :
    ((classified.streams.get 1).state ≠ .disabled ∧ (classified.streams.get 1).initiatorSet.getLsbD 3 = true ∧
      (classified.streams.get 1).pageBase.toNat ≤ (0x8000#31).toNat / 128 ∧
      (0xFFFF#31).toNat / 128 ≤ (classified.streams.get 1).pageLimit.toNat ∧
      (classified.streams.get 1).kinds = .read ∧ ¬ (classified.streams.get 0).initiatorSet.getLsbD 3 = true) ∧
    ∀ k : StreamId, ¬ ((classified.streams.get k).state ≠ .disabled ∧
      (classified.streams.get k).initiatorSet.getLsbD (5#5).toNat = true) := by decide +kernel

/-- The offer of a READ of 8 units of I1 to S0, the stream's entry `e` and queue `q` as given. -/
def offeredTo (e : StreamEntry) (q : List Descriptor) : Prop :=
  (regulated e q).ctl.mode = .regulate ∧ (regulated e q).port.offer = none ∧
  malformed (decodeUpRequest (readHeader 0#31 8) []) = false ∧
  duplicate (regulated e q) (decodeUpRequest (readHeader 0#31 8) []) = false

/-- CLOSED (DRAINING, and DISABLED by the default stream); OVER_BUDGET at a credit of 7; room at 1 of 2 places and the
full queue, under both policies. -/
theorem test_witness_StreamAdmissionFollowsTheSteps :
    (offeredTo { entry with state := .draining } [] ∧
      classify (regulated { entry with state := .draining } []) (decodeUpRequest (readHeader 0#31 8) []) = some 0) ∧
    (offeredTo { entry with state := .disabled } [] ∧
      classify ((regulated { entry with state := .disabled } []).withSettings
        { Settings.reset with defaultStream := some 0 }) (decodeUpRequest (readHeader 0#31 8) []) = some 0) ∧
    (offeredTo { entry with overBudget := .refuse, credit := 7 } [] ∧ (7 < 8 + (([] : List Descriptor).map (·.length)).sum) ∧
      ¬ (8 < 8 + (([] : List Descriptor).map (·.length)).sum)) ∧
    (offeredTo entry [held 9#8 8 0#32] ∧ (queueOf (regulated entry [held 9#8 8 0#32]) 0).length < entry.queueLimit.toNat ∧
      0 + 1 ≤ freeDescriptors (regulated entry [held 9#8 8 0#32])) ∧
    (offeredTo entry [held 8#8 8 0#32, held 9#8 8 1#32] ∧
      ¬ (queueOf (regulated entry [held 8#8 8 0#32, held 9#8 8 1#32]) 0).length < entry.queueLimit.toNat ∧
      entry.fullPolicy = .refuse ∧ ({ entry with fullPolicy := .stall } : StreamEntry).fullPolicy = .stall) := by
  unfold offeredTo
  decide +kernel

theorem test_witness_StalledRequestIsEvaluatedAsOffered :
    (setOffer (some (decodeUpRequest (readHeader 0#31 8) [])) State.reset).port.offer =
      some (decodeUpRequest (readHeader 0#31 8) []) ∧ State.reset.port.offer = none := by decide +kernel

/-- Two requests queued for S0 at tick 0, the tick counter at `now` and S0's deadline 10. -/
def aged (now : Word) : State :=
  let s := regulated { entry with deadline := 10#16 } [held 1#8 8 0#32, held 2#8 8 1#32]
  s.withTimer { s.timer with tick := now }

/-- No request is due at an age of 9; at 10 both are, and the first is the older. -/
theorem test_witness_OldestDueRequestCrosses :
    (∀ (k : StreamId), ∀ d ∈ queueOf (aged 9#32) k, ¬ (((aged 9#32).streams.get k).deadline ≠ 0#16 ∧ d.late = false ∧
      ((aged 9#32).streams.get k).deadline.toNat ≤ ((aged 9#32).timer.tick - d.admTick).toNat)) ∧
    (queueOf (aged 10#32) 0 = [] ++ held 1#8 8 0#32 :: [held 2#8 8 1#32] ∧
      (((aged 10#32).streams.get 0).deadline ≠ 0#16 ∧ (held 1#8 8 0#32).late = false ∧
        ((aged 10#32).streams.get 0).deadline.toNat ≤ ((aged 10#32).timer.tick - (held 1#8 8 0#32).admTick).toNat) ∧
      ∀ j : StreamId, j ≠ 0 → ∀ f ∈ queueOf (aged 10#32) j,
        ((aged 10#32).store.nextSeq - f.seq).toNat < ((aged 10#32).store.nextSeq - (held 1#8 8 0#32).seq).toNat) ∧
    ((aged 10#32).streams.get 0).lateSeen = false ∧
    ({ entry with lateSeen := true } : StreamEntry).lateSeen = true := by decide +kernel

/-! ### Witnesses: releases and responses -/

/-- `s` with the downstream ready condition. -/
def ready (s : State) : State := s.withDp { s.dp with ready := true }

/-- The lowest FREE tag is 0 with every entry FREE, and 47 with all others taken. -/
theorem test_witness_PassReleaseSendsTheHead :
    ((ready loadedPass).dp.ready = true ∧ lowestFree (ready loadedPass) 0 ∧ releasesPass (ready loadedPass).ctl ∧
      (ready loadedPass).store.pass = held 1#8 8 0#32 :: []) ∧
    (inMode .engaging .pass .engage loadedPass).ctl.mode = .engaging ∧
    lowestFree (State.reset.withTable ((Table.replicate 48 (.inFlight flying)).set 47 .free)) 47 ∧
    releasesPass (inMode .quiescing .pass .quiesce loadedPass).ctl := by
  unfold lowestFree releasesPass
  decide +kernel

/-- S0's slot with S0's head within its credit; the OPEN slot, where S0 wins from the pointer 0 and from the pointer 1. -/
theorem test_witness_StreamReleaseSendsTheWinner :
    ((ready (ending false true entry [held 1#8 8 0#32])).dp.ready = true ∧
      lowestFree (ready (ending false true entry [held 1#8 8 0#32])) 0 ∧
      releasesByWindow (ready (ending false true entry [held 1#8 8 0#32])).ctl ∧
      queueOf (ready (ending false true entry [held 1#8 8 0#32])) 0 = held 1#8 8 0#32 :: []) ∧
    (window (ready (ending false true entry [held 1#8 8 0#32])) = .slot 0 ⟨.stream, 0#5, false, 100#12⟩ ∧
      ownerEligible (ready (ending false true entry [held 1#8 8 0#32])) 0 = true) ∧
    (window (regulated { entry with openShare := true } [held 1#8 8 0#32]) = .slot 0 ⟨.openAll, 0#5, false, 1000#12⟩ ∧
      openEligible (regulated { entry with openShare := true } [held 1#8 8 0#32]) 0 = true ∧ ((0 : StreamId) - 0).val = 0) ∧
    (((0 : StreamId) - 1).val = 23 ∧ ∀ j < 23,
      openEligible (regulated { entry with openShare := true } [held 1#8 8 0#32]) (1 + Fin.ofNat 24 j) = false) := by
  unfold lowestFree releasesByWindow
  decide +kernel

/-- Not READY, no FREE entry, QUIESCED, a QUIET slot, an owner short of credit with lend OFF, an OPEN slot with open
share NO, and an empty pass queue. -/
theorem test_witness_EligibilityAndWhenNothingIsReleased :
    (State.reset.dp.ready = false ∧
      (∀ t : Tag, ((State.reset.withTable (Table.replicate 48 (.inFlight flying))).table.get t) ≠ .free) ∧
      (inMode .quiesced .pass .none State.reset).ctl.mode = .quiesced) ∧
    (releasesByWindow (regulated entry []).ctl ∧
      window ((regulated entry []).withActive (bankOf 1 ⟨.quiet, 0#5, false, 9#12⟩)) = .slot 0 ⟨.quiet, 0#5, false, 9#12⟩) ∧
    (window (ending false true { entry with credit := 7 } [held 1#8 8 0#32]) = .slot 0 ⟨.stream, 0#5, false, 100#12⟩ ∧
      ∀ k : StreamId, (0#5).toNat = k.val → ownerEligible (ending false true { entry with credit := 7 } [held 1#8 8 0#32]) k = false) ∧
    ((∀ k : StreamId, openEligible (regulated entry [held 1#8 8 0#32]) k = false) ∧
      window (regulated entry [held 1#8 8 0#32]) = .slot 0 ⟨.openAll, 0#5, false, 1000#12⟩) ∧
    (releasesPass State.reset.ctl ∧ State.reset.store.pass = []) ∧
    (State.reset.timer.state = .stopped ∧ (waiting 5 5#16).timer.state = .waitSync ∧
      (regulated entry []).timer.state = .free ∧ (regulated entry []).timer.slot = some 0 ∧
      (following .locked (some 47) 1 .idle Bank.reset).timer.state = .locked ∧
      (following .locked (some 47) 1 .idle Bank.reset).timer.slot = some 47 ∧
      (following .holdover (some 0) 1 .idle Bank.reset).timer.state = .holdover) := by
  unfold releasesByWindow releasesPass
  decide +kernel

/-- The response header of tag `t` with status OK and no data. -/
def okHeader (t : BitVec 6) : BitVec 32 := encodeDownResponse { tag := t, ok := true, data := [] } 0#21

/-- Tag 0 in flight and orphaned, tag 47 FREE, tag 48. -/
theorem test_witness_ResponseArrivalActsByTheEntry :
    ((decodeDownResponse (okHeader 0#6) []).tag.toNat = (0 : Tag).val ∧
      (withEntry (.inFlight flying) (regulated entry [])).table.get 0 = .inFlight flying ∧
      (withEntry (.orphaned flying) (regulated entry [])).table.get 0 = .orphaned flying) ∧
    ((decodeDownResponse (okHeader 47#6) []).tag.toNat = (47 : Tag).val ∧ State.reset.table.get 47 = .free) ∧
    48 ≤ (decodeDownResponse (okHeader 48#6) []).tag.toNat := by decide +kernel

/-- A request of S0 in flight since tick 0, at the tick `now` with a response timeout of 400. -/
def expiring (now : Word) : State :=
  let s := withEntry (.inFlight flying) (regulated entry [])
  { s with timer := { s.timer with tick := now }, settings := { s.settings with responseTimeout := 400#16 } }

theorem test_witness_ResponseTimeoutOrphansTheEntry :
    ((expiring 400#32).table.get 0 = .inFlight flying ∧ (expiring 400#32).settings.responseTimeout ≠ 0#16 ∧
      (expiring 400#32).settings.responseTimeout.toNat ≤ ((expiring 400#32).timer.tick - flying.relTick).toNat) ∧
    ((expiring 399#32).timer.tick - flying.relTick).toNat < (expiring 399#32).settings.responseTimeout.toNat ∧
    (State.reset.table.get 0 = .free ∧ (withEntry (.orphaned flying) State.reset).table.get 0 = .orphaned flying ∧
      State.reset.settings.responseTimeout = 0#16) := by decide +kernel

/-! ### Witnesses: completions, records and invariants -/

theorem test_witness_CompletionsFollowTheirConditions :
    ((inMode .engaging .pass .engage State.reset).ctl.mode = .engaging ∧
      (inMode .engaging .pass .engage State.reset).store.pass = [] ∧ State.reset.settings.timing = .source ∧
      otherSettings.timing = .follow) ∧
    (State.reset.ctl.mode ≠ .engaging ∧ (inMode .engaging .pass .engage loadedPass).store.pass ≠ []) ∧
    ((inMode .quiescing .pass .quiesce State.reset).ctl.mode = .quiescing ∧
      (∀ t : Tag, (State.reset.table.get t).isInFlight = false) ∧ State.reset.store.pass = []) ∧
    ((withEntry (.inFlight flying) (inMode .quiescing .pass .quiesce State.reset)).table.get 0).isInFlight = true ∧
    (((streamIn .draining []).streams.get 0).state = .draining ∧ queueOf (streamIn .draining []) 0 = [] ∧
      ∀ t : Tag, (streamIn .draining []).table.get t = .free) ∧
    ((withEntry (.inFlight flying) (streamIn .draining [])).table.get 0 = .inFlight flying ∧
      flying.stream = .stream 0) ∧
    (quiesceIfDue State.reset = State.reset ∧ (State.reset.streams.get 0).state ≠ .draining ∧
      ((inMode .quiescing .pass .quiesce State.reset).streams.get 0).state ≠ .draining) ∧
    quiesceIfDue (inMode .quiescing .pass .quiesce State.reset) ≠ inMode .quiescing .pass .quiesce State.reset := by
  decide +kernel

/-- 30 and 31 ordinary records, and 31 with an OVERFLOW record behind them whose count is 65534 and 65535. -/
theorem test_witness_PresentedRecordIsStoredOrLost :
    (EventQueueLaw (recorded (List.replicate 30 (record .late 0))) ∧
      (recorded (List.replicate 30 (record .late 0))).events.records.length ≤ 30) ∧
    (EventQueueLaw (recorded (List.replicate 31 (record .late 0))) ∧
      (∀ x ∈ (recorded (List.replicate 31 (record .late 0))).events.records, x.kind ≠ .overflow) ∧
      (recorded (List.replicate 31 (record .late 0))).events.records.length = 31) ∧
    (EventQueueLaw (recorded (List.replicate 31 (record .late 0) ++ [record .overflow 65534])) ∧
      (record .overflow 65534).detail < 65535 ∧ (record .overflow 65535).kind = .overflow ∧
      ¬ (record .overflow 65535).detail < 65535) := by decide +kernel

/-- A state of REGULATE with a queued request, one in flight, a commit pending and a TICK waiting. -/
def lively : State :=
  (withEntry (.inFlight flying) (pendingIn .commit (regulated entry [held 1#8 8 0#32]))).withPending [.tick .low]

/-- For the five statements about invariants: a state that has every law, and a step from it. -/
theorem test_witness_laws_are_met :
    (EventQueueLaw lively ∧ StoreLaw lively ∧ ReserveLaw lively ∧ CreditLaw lively ∧ DisabledLaw lively) ∧
    (ScheduleLaw lively ∧ ModeLaw lively ∧ TimerLaw lively ∧ TimingLaw lively ∧ TagLaw lively ∧ QueueLaw lively ∧
      LatencyLaw lively) := by
  refine ⟨⟨?_, ?_, ?_, ?_, ?_⟩, ?_, ?_, ⟨?_, ?_, ?_, ?_, ?_, ?_⟩, ?_, ?_, ?_, ?_⟩ <;> decide +kernel

theorem test_witness_LinkLaw : LinkLaw lively := ⟨by decide +kernel, by decide +kernel, rfl, rfl, rfl, rfl⟩

theorem test_witness_LengthLaw : LengthLaw lively := by
  refine ⟨by decide +kernel, fun t => ?_⟩
  have h : lively.table.get t = .free ∨ lively.table.get t = .inFlight flying := by revert t; decide +kernel
  rcases h with h | h <;> rw [h]
  · trivial
  · decide

/-- The step that the invariants follow. -/
theorem test_witness_lively_steps : step lively = .next (after (.tick .low) (lively.withPending [])) := by rfl

theorem test_witness_RequestsAreConserved :
    exec (.requestOffer (readHeader 0#31 8) []) State.reset =
      .next (after (.requestOffer (readHeader 0#31 8) []) State.reset) ∧
    State.reset.port.offer = none ∧ exec .release (ready loadedPass) = .next (after .release (ready loadedPass)) ∧
    Instr.release ≠ .powerOnReset ∧ ∀ header data, Instr.release ≠ .requestOffer header data :=
  ⟨rfl, rfl, rfl, nofun, nofun⟩

end Sys2Proof.Tests
end

/-! PROOFS. READ_STREAM and FLUSH_STREAM (R2, R18): how a link command's answer is built, how numbers are read back
from a payload (R168), what a stream entry's payload reports, and what refusing a list of queued requests does. -/
namespace Sys2Proof.Machine
open Sys2Proof

/-! ### The answer of a link command -/

/-- R159, R164. A command whose response is retained answers with the status and payload that its own rule decides. -/
theorem respond_eq_answer (seq : Byte) (run : State → State × Answer) (s : State) :
    respond seq true run s =
      answer seq (run (placeResponse s)).2.status (run (placeResponse s)).2.payload (run (placeResponse s)).1 := rfl

theorem exec_readStream (seq : Byte) (args : List Byte) (s : State) :
    exec (.readStream seq args) s = .next (respond seq true (cmdReadStream args) s) := rfl

theorem exec_flushStream (seq : Byte) (args : List Byte) (s : State) :
    exec (.flushStream seq args) s = .next (respond seq true (cmdFlushStream args) s) := rfl

/-! ### The stream argument -/

theorem parseStream_eq_some {n : Byte} {k : StreamId} (h : n.toNat = k.val) : parseStream n = some k := by
  have hlt : n.toNat < numStreams := h ▸ k.isLt
  rw [parseStream, dif_pos hlt]
  exact congrArg some (Fin.ext h)

theorem parseStream_eq_none {n : Byte} (h : 24 ≤ n.toNat) : parseStream n = none := dif_neg (Nat.not_lt.2 h)

theorem cmdReadStream_stream {n : Byte} {k : StreamId} (h : n.toNat = k.val) (s : State) :
    cmdReadStream [n] s = accepted (streamPayload s k) s := by
  simp only [cmdReadStream, parseStream_eq_some h]

theorem cmdFlushStream_stream {n : Byte} {k : StreamId} (h : n.toNat = k.val) (s : State) :
    cmdFlushStream [n] s = accepted [natByte (queuedCount s k)] (flush k s) := by
  simp only [cmdFlushStream, parseStream_eq_some h]

/-- R168. Anything but one byte that names a stream 0 to 23. -/
abbrev NoStreamByte (args : List Byte) : Prop := args.length ≠ 1 ∨ ∃ n, args = [n] ∧ 24 ≤ n.toNat

theorem NoStreamByte.cases {args : List Byte} (h : NoStreamByte args) :
    args = [] ∨ (∃ a b rest, args = a :: b :: rest) ∨ ∃ n, args = [n] ∧ parseStream n = none := by
  rcases h with hlen | ⟨n, rfl, hn⟩
  · match args, hlen with
    | [], _ => exact .inl rfl
    | a :: b :: rest, _ => exact .inr (.inl ⟨a, b, rest, rfl⟩)
  · exact .inr (.inr ⟨n, rfl, parseStream_eq_none hn⟩)

theorem cmdReadStream_refused {args : List Byte} (h : NoStreamByte args) (s : State) :
    cmdReadStream args s = refusal .badArgument s := by
  obtain rfl | ⟨a, b, rest, rfl⟩ | ⟨n, rfl, hn⟩ := h.cases
  · rfl
  · rfl
  · simp only [cmdReadStream, hn]

theorem cmdFlushStream_refused {args : List Byte} (h : NoStreamByte args) (s : State) :
    cmdFlushStream args s = refusal .badArgument s := by
  obtain rfl | ⟨a, b, rest, rfl⟩ | ⟨n, rfl, hn⟩ := h.cases
  · rfl
  · rfl
  · simp only [cmdFlushStream, hn]

/-! ### Numbers in a payload (R168) -/

theorem beNat_singleton (b : Byte) : beNat [b] = b.toNat := by simp [beNat]

theorem beNat_natByte {n : Nat} (h : n < 256) : beNat [natByte n] = n := by
  rw [beNat_singleton, natByte, BitVec.toNat_ofNat, Nat.mod_eq_of_lt h]

theorem beNat_flagByte (b : Bool) : beNat [flagByte b] = flagNat b := by cases b <;> rfl

theorem beNat_bytes16 (w : BitVec 16) : beNat (bytes16 w) = w.toNat := by
  simp [beNat, bytes16, Nat.shiftRight_eq_div_pow]
  omega

theorem beNat_bytes24 (w : BitVec 24) : beNat (bytes24 w) = w.toNat := by
  simp [beNat, bytes24, Nat.shiftRight_eq_div_pow]
  omega

theorem beNat_bytes32 (w : BitVec 32) : beNat (bytes32 w) = w.toNat := by
  simp [beNat, bytes32, Nat.shiftRight_eq_div_pow]
  omega

theorem beNat_bytes16_ofNat {n : Nat} (h : n < 2 ^ 16) : beNat (bytes16 (BitVec.ofNat 16 n)) = n := by
  rw [beNat_bytes16, BitVec.toNat_ofNat, Nat.mod_eq_of_lt h]

theorem beNat_bytes24_ofNat {n : Nat} (h : n < 2 ^ 24) : beNat (bytes24 (BitVec.ofNat 24 n)) = n := by
  rw [beNat_bytes24, BitVec.toNat_ofNat, Nat.mod_eq_of_lt h]

/-- Table 12-5. The byte of the three latches: REFUSED_SEEN in bit 0, LATE_SEEN in bit 1, HELD_SEEN in bit 2. -/
theorem beNat_latchByte (held late refused : Bool) :
    beNat [0#5 ++ BitVec.ofBool held ++ BitVec.ofBool late ++ BitVec.ofBool refused] =
      flagNat refused + 2 * flagNat late + 4 * flagNat held := by
  revert held late refused
  decide

/-! ### The views of a stream fit their bytes -/

theorem cap_lt (e : StreamEntry) : e.cap < 2 ^ 24 := by
  have := e.reload.isLt
  unfold StreamEntry.cap
  split <;> omega

theorem credit_lt {s : State} (h : CreditLaw s) (k : StreamId) : (s.streams.get k).credit < 2 ^ 24 :=
  (h k).1.trans_lt (cap_lt _)

/-- A stream's queue is a part of all that is held. -/
theorem queueOf_sublist_allHeld (s : State) (k : StreamId) : (queueOf s k).Sublist (allHeld s) :=
  (List.sublist_flatten_of_mem ((Table.mem_cells _ _).2 ⟨k, rfl⟩)).trans (List.sublist_append_left _ _)

theorem queuedCount_le {s : State} (h : StoreLaw s) (k : StreamId) : queuedCount s k ≤ 128 :=
  (queueOf_sublist_allHeld s k).length_le.trans h.1

theorem queuedUnits_le {s : State} (hstore : StoreLaw s) (hlength : LengthLaw s) (k : StreamId) :
    queuedUnits s k ≤ 1024 := by
  have each : ∀ n ∈ (queueOf s k).map (·.length), n ≤ 8 := by
    intro n hn
    obtain ⟨d, hd, rfl⟩ := List.mem_map.1 hn
    exact (hlength.1 d ((queueOf_sublist_allHeld s k).subset hd)).2
  have hsum := List.sum_le_card_nsmul _ 8 each
  have hcount : (queueOf s k).length ≤ 128 := queuedCount_le hstore k
  rw [List.length_map, smul_eq_mul] at hsum
  unfold queuedUnits
  omega

theorem inFlightCount_le (s : State) (k : StreamId) : inFlightCount s k ≤ 48 :=
  List.countP_le_length.trans_eq s.table.size

/-! ### READ_STREAM -/

/-- Table 12-5. The payload of a stream entry carries every item at its offset where each view fits its bytes. -/
theorem streamPayload_reported {s : State} {k : StreamId} (hcredit : (s.streams.get k).credit < 2 ^ 24)
    (hcount : queuedCount s k < 256) (hunits : queuedUnits s k < 2 ^ 16) : StreamReported s k (streamPayload s k) := by
  have hstream : k.val < 256 := k.isLt.trans (by decide)
  have hflight : inFlightCount s k < 256 := (inFlightCount_le s k).trans_lt (by decide)
  simp only [StreamReported, streamPayload, StreamEntry.configBytes, bytes16, bytes24, bytes32, field,
    List.cons_append, List.nil_append, List.drop_succ_cons, List.take_succ_cons, List.drop_zero, List.take_zero]
  generalize s.streams.get k = e at *
  exact ⟨rfl, beNat_natByte hstream, beNat_singleton e.state.code, beNat_bytes32 e.initiatorSet,
    beNat_bytes24 e.pageBase, beNat_bytes24 e.pageLimit, beNat_singleton e.kinds.code, beNat_bytes16 e.reload,
    beNat_flagByte e.carry, beNat_singleton e.overBudget.code, beNat_singleton e.fullPolicy.code,
    beNat_flagByte e.openShare, beNat_singleton e.queueLimit, beNat_singleton e.reserve, beNat_bytes16 e.deadline,
    beNat_singleton e.maxInFlight, beNat_bytes24_ofNat hcredit, beNat_bytes24_ofNat (cap_lt e), beNat_natByte hcount,
    beNat_bytes16_ofNat hunits, beNat_natByte hflight, beNat_latchByte e.heldSeen e.lateSeen e.refusedSeen⟩

/-- Settles O12: the answer follows from READ_STREAM's rule, the payload from the bounds that the laws give. -/
theorem readStreamReportsTheEntry : Obligations.ReadStreamReportsTheEntry := by
  refine ⟨fun s₀ seq n k h => ?_, fun s₀ seq args h => ?_, fun s k hstore hcredit hlength => ?_⟩
  · rw [exec_readStream, respond_eq_answer, cmdReadStream_stream h]
    rfl
  · rw [exec_readStream, respond_eq_answer, cmdReadStream_refused h]
    rfl
  · have hcount := queuedCount_le hstore k
    have hunits := queuedUnits_le hstore hlength k
    exact streamPayload_reported (credit_lt hcredit k) (by omega) (by omega)

/-! ### Refusing a list of queued requests (R18, R72) -/

@[simp] theorem satAdd_zero (c : Word) : satAdd c 0 = c := by
  rw [satAdd, if_pos (by simpa using c.isLt)]
  exact BitVec.add_zero c

/-- R140. Two rises of a counter are one rise by their sum, also where the counter stops. -/
theorem satAdd_satAdd (c : Word) (m n : Nat) : satAdd (satAdd c m) n = satAdd c (m + n) := by
  by_cases hm : c.toNat + m < 2 ^ 32
  · have hsum : (c + BitVec.ofNat 32 m).toNat = c.toNat + m := by
      rw [BitVec.toNat_add, BitVec.toNat_ofNat]
      omega
    rw [satAdd, satAdd, satAdd, if_pos hm, hsum, ← Nat.add_assoc, BitVec.ofNat_add, BitVec.add_assoc]
  · have hstopped : ∀ i, satAdd 0xFFFFFFFF#32 i = 0xFFFFFFFF#32 := by
      intro i
      cases i with
      | zero => exact satAdd_zero _
      | succ i => exact if_neg (by rw [BitVec.toNat_ofNat]; omega)
    have hc : satAdd c m = 0xFFFFFFFF#32 := if_neg hm
    have hc' : satAdd c (m + n) = 0xFFFFFFFF#32 := if_neg (by omega)
    rw [hc, hc', hstopped]

/-- R18, R153. The response that refuses a queued request. -/
def refusedResponse (reason : Reason) (d : Descriptor) : UpResponse :=
  { initiator := d.initiator, transaction := d.transaction, status := .refused reason, data := [] }

/-- R18, R141. Each request of `ds` answered REFUSED, in order, and counted in stream `k`'s group; nothing recorded. -/
def answerRefused (reason : Reason) (k : StreamId) (ds : List Descriptor) (s : State) : State :=
  { s with
    port := { s.port with sent := s.port.sent ++ ds.map (refusedResponse reason) }
    stats :=
      { s.stats with
        streams :=
          s.stats.streams.set k
            { s.stats.streams.get k with
              refusedRequests := satAdd (s.stats.streams.get k).refusedRequests ds.length } } }

theorem answerRefused_nil (reason : Reason) (k : StreamId) (s : State) : answerRefused reason k [] s = s := by
  have hgroups : s.stats.streams.set k (s.stats.streams.get k) = s.stats.streams := Table.set_get_self _ k
  simp only [answerRefused, List.map_nil, List.append_nil, List.length_nil, satAdd_zero]
  rw [hgroups]

theorem answerRefused_answerRefused (reason : Reason) (k : StreamId) (ds es : List Descriptor) (s : State) :
    answerRefused reason k es (answerRefused reason k ds s) = answerRefused reason k (ds ++ es) s := by
  simp [answerRefused, satAdd_satAdd]

/-- R72. The refusal of one queued request is its answer and count, then its event. -/
theorem refuseRequest_eq (reason : Reason) (k : StreamId) (d : Descriptor) (s : State) :
    refuseRequest d.initiator d.transaction reason (some k) s =
      recordRefused d.initiator d.transaction reason (some k) (answerRefused reason k [d] s) := rfl

/-- R135. With the latch set, a refusal records nothing. -/
theorem recordRefused_of_refusedSeen {k : StreamId} {s : State} (h : (s.streams.get k).refusedSeen = true)
    (i : BitVec 5) (t : Byte) (reason : Reason) : recordRefused i t reason (some k) s = s := if_pos h

/-- R135. With the latch clear, a refusal records its event and sets the latch. -/
theorem recordRefused_of_not_refusedSeen {k : StreamId} {s : State} (h : ¬ (s.streams.get k).refusedSeen = true)
    (i : BitVec 5) (t : Byte) (reason : Reason) :
    recordRefused i t reason (some k) s =
      updStream k (fun e => { e with refusedSeen := true })
        (recordNow .refused (some k) (some (i, t)) reason.code s.timer.slot s) := if_neg h

/-- R135. The latch is set after any refusal of a stream's request. -/
theorem recordRefused_refusedSeen (i : BitVec 5) (t : Byte) (reason : Reason) (k : StreamId) (s : State) :
    ((recordRefused i t reason (some k) s).streams.get k).refusedSeen = true := by
  by_cases h : (s.streams.get k).refusedSeen = true
  · rw [recordRefused_of_refusedSeen h, h]
  · simp [recordRefused_of_not_refusedSeen h, updStream]

/-- Answers and counts touch neither the Event Queue nor a latch, and an event touches neither the port nor a group. -/
theorem answerRefused_recordRefused (i : BitVec 5) (t : Byte) (reason : Reason) (k : StreamId) (ds : List Descriptor)
    (s : State) :
    answerRefused reason k ds (recordRefused i t reason (some k) s) =
      recordRefused i t reason (some k) (answerRefused reason k ds s) := by
  by_cases h : (s.streams.get k).refusedSeen = true
  · rw [recordRefused_of_refusedSeen h, recordRefused_of_refusedSeen (s := answerRefused reason k ds s) h]
  · rw [recordRefused_of_not_refusedSeen h, recordRefused_of_not_refusedSeen (s := answerRefused reason k ds s) h]
    rfl

/-- R135. While the latch is set, a list of refusals records no event. -/
theorem refuseAll_of_refusedSeen (reason : Reason) {k : StreamId} (ds : List Descriptor) {s : State}
    (h : (s.streams.get k).refusedSeen = true) : refuseAll reason (some k) ds s = answerRefused reason k ds s := by
  induction ds generalizing s with
  | nil => exact (answerRefused_nil reason k s).symm
  | cons d ds ih =>
    calc refuseAll reason (some k) (d :: ds) s
        = refuseAll reason (some k) ds (answerRefused reason k [d] s) := by
          rw [refuseAll, List.foldl_cons, refuseRequest_eq,
            recordRefused_of_refusedSeen (s := answerRefused reason k [d] s) h, refuseAll]
      _ = answerRefused reason k ds (answerRefused reason k [d] s) := ih (s := answerRefused reason k [d] s) h
      _ = answerRefused reason k (d :: ds) s := answerRefused_answerRefused ..

/-- R18, R135. Of a list of refusals the first alone may record its event. -/
def recordFirstRefused (reason : Reason) (k : StreamId) (ds : List Descriptor) (s : State) : State :=
  match ds with
  | [] => s
  | d :: _ => recordRefused d.initiator d.transaction reason (some k) s

/-- R18, R72, R135. A list of refusals answers and counts every request, and records at most the first. -/
theorem refuseAll_eq (reason : Reason) (k : StreamId) (ds : List Descriptor) (s : State) :
    refuseAll reason (some k) ds s = recordFirstRefused reason k ds (answerRefused reason k ds s) := by
  cases ds with
  | nil => exact (answerRefused_nil reason k s).symm
  | cons d ds =>
    calc refuseAll reason (some k) (d :: ds) s
        = refuseAll reason (some k) ds
            (recordRefused d.initiator d.transaction reason (some k) (answerRefused reason k [d] s)) := rfl
      _ = answerRefused reason k ds
            (recordRefused d.initiator d.transaction reason (some k) (answerRefused reason k [d] s)) :=
          refuseAll_of_refusedSeen reason ds (recordRefused_refusedSeen ..)
      _ = recordFirstRefused reason k (d :: ds) (answerRefused reason k (d :: ds) s) := by
          rw [answerRefused_recordRefused, answerRefused_answerRefused]
          rfl

/-! ### FLUSH_STREAM -/

/-- Settles O15: the flush refuses the whole queue at once, which `refuseAll_eq` writes out as one state. -/
theorem flushAnswersTheWholeQueue : Obligations.FlushAnswersTheWholeQueue := by
  refine ⟨fun s₀ seq n k h => ?_, fun s₀ seq args h => ?_⟩
  · rw [exec_flushStream, respond_eq_answer, cmdFlushStream_stream h, flush, refuseAll_eq]
    rfl
  · rw [exec_flushStream, respond_eq_answer, cmdFlushStream_refused h]
    rfl

end Sys2Proof.Machine

/-! PROOFS. SET_SLOT_COUNT and REVERT_STAGED (R23, R25, R26): the summary that an edit of the staged bank answers
(Table 12-6), the lock, and the two commands that edit it. -/
namespace Sys2Proof

/-- The first `m` of the values of `f` are those at the indices below `m`. -/
theorem take_ofFn_eq_map_filter {n : Nat} {α : Type} (f : Fin n → α) (m : Nat) :
    (List.ofFn f).take m = ((List.finRange n).filter fun j => j.val < m).map f := by
  induction n generalizing m with
  | zero => simp
  | succ n ih =>
    cases m with
    | zero => simp
    | succ m =>
      rw [List.ofFn_succ, List.take_succ_cons, ih, List.finRange_succ, List.filter_cons_of_pos (by simp),
        List.map_cons, List.filter_map, List.map_map]
      simp [Function.comp_def]

/-- The first `m` cells of a table are what it reads at the places below `m`. -/
theorem Table.take_cells {n : Nat} {α : Type} (t : Table n α) (m : Nat) :
    t.cells.take m = ((List.finRange n).filter fun j => j.val < m).map t.get := by
  rw [t.cells_eq_ofFn, take_ofFn_eq_map_filter]

end Sys2Proof

namespace Sys2Proof.Machine
open Sys2Proof

/-! ### The summary of a bank -/

/-- R28. The frame length of a bank sums the lengths of its used slots. -/
theorem frameLength_eq_usedLength (b : Bank) : b.frameLength = usedLength b := by
  rw [Bank.frameLength, b.entries.take_cells, List.map_map]
  rfl

theorem summary_eq_summaryOf (b : Bank) : b.summary = summaryOf b := by
  rw [Bank.summary, frameLength_eq_usedLength, summaryOf]

/-! ### A command that is refused, and one that is taken -/

theorem respond_of_refusal {run : State → State × Answer} {st : Status} {s : State}
    (h : run (placeResponse s) = refusal st (placeResponse s)) (seq : Byte) :
    respond seq true run s = answer seq st [] (placeResponse s) := by
  rw [respond_eq_answer, h]
  rfl

theorem respond_of_accepted {run : State → State × Answer} {payload : List Byte} {s t : State}
    (h : run (placeResponse s) = accepted payload t) (seq : Byte) :
    respond seq true run s = answer seq .ok payload t := by
  rw [respond_eq_answer, h]
  rfl

/-! ### The lock of the staged bank (R23) -/

theorem editStaged_of_locked {s : State} (h : s.ctl.pendingOp = .commit) (b : Bank) :
    editStaged b s = refusal .busy s := if_pos (decide_eq_true h)

theorem editStaged_of_not_locked {s : State} (h : s.ctl.pendingOp ≠ .commit) (b : Bank) :
    editStaged b s = accepted (summaryOf b) { s with staged := b } := by
  have hfree : ¬ stagedLocked s = true := by simpa [stagedLocked] using h
  rw [editStaged, if_neg hfree, summary_eq_summaryOf]
  rfl

/-! ### SET_SLOT_COUNT -/

theorem exec_setSlotCount (seq : Byte) (args : List Byte) (s : State) :
    exec (.setSlotCount seq args) s = .next (respond seq true (cmdSetSlotCount args) s) := rfl

theorem cmdSetSlotCount_of_le {n : Byte} (h : n.toNat ≤ 48) (s : State) :
    cmdSetSlotCount [n] s = editStaged { s.staged with count := n.toNat } s := if_pos h

theorem cmdSetSlotCount_of_gt {n : Byte} (h : 48 < n.toNat) (s : State) :
    cmdSetSlotCount [n] s = refusal .badArgument s := if_neg (Nat.not_le.2 h)

theorem cmdSetSlotCount_of_length_ne {args : List Byte} (h : args.length ≠ 1) (s : State) :
    cmdSetSlotCount args s = refusal .badArgument s := by
  match args, h with
  | [], _ => rfl
  | _ :: _ :: _, _ => rfl

/-- Settles O19: the argument check of R25 comes first, then the lock of R23 decides the edit. -/
theorem setSlotCountSetsTheStagedCount : Obligations.SetSlotCountSetsTheStagedCount := by
  refine fun s₀ seq n args => ⟨fun hn => ?_, fun hn hlock => ?_, fun hn hfree => ?_, fun hlen => ?_⟩
  · rw [exec_setSlotCount, respond_of_refusal (cmdSetSlotCount_of_gt hn _)]
  · rw [exec_setSlotCount,
      respond_of_refusal ((cmdSetSlotCount_of_le hn _).trans (editStaged_of_locked hlock _))]
  · rw [exec_setSlotCount,
      respond_of_accepted ((cmdSetSlotCount_of_le hn _).trans (editStaged_of_not_locked hfree _))]
  · rw [exec_setSlotCount, respond_of_refusal (cmdSetSlotCount_of_length_ne hlen _)]

/-! ### REVERT_STAGED -/

theorem exec_revertStaged (seq : Byte) (args : List Byte) (s : State) :
    exec (.revertStaged seq args) s = .next (respond seq true (cmdRevertStaged args) s) := rfl

theorem cmdRevertStaged_nil (s : State) : cmdRevertStaged [] s = editStaged s.active s := rfl

theorem cmdRevertStaged_of_ne_nil {args : List Byte} (h : args ≠ []) (s : State) :
    cmdRevertStaged args s = refusal .badArgument s := by
  cases args with
  | nil => exact absurd rfl h
  | cons => rfl

/-- Settles O20: without arguments REVERT_STAGED is the edit to the active bank, which the lock of R23 decides. -/
theorem revertStagedCopiesTheActiveBank : Obligations.RevertStagedCopiesTheActiveBank := by
  refine fun s₀ seq args => ⟨?_, ?_, fun hargs => ?_⟩
  · rintro rfl hlock
    rw [exec_revertStaged, respond_of_refusal ((cmdRevertStaged_nil _).trans (editStaged_of_locked hlock _))]
  · rintro rfl hfree
    rw [exec_revertStaged, respond_of_accepted ((cmdRevertStaged_nil _).trans (editStaged_of_not_locked hfree _))]
  · rw [exec_revertStaged, respond_of_refusal (cmdRevertStaged_of_ne_nil hargs _)]

end Sys2Proof.Machine

/-! PROOFS. The offer of a request (R59 to R63): what `judge` says of a malformed request and of one in PASS, what a
refusal without a stream leaves, and the free counts of the Request Store written out. -/
namespace Sys2Proof.Machine
open Sys2Proof

/-! ### The offer of a request -/

/-- R59, R151. An offer that meets an EMPTY place is evaluated. -/
theorem exec_requestOffer_of_empty {s : State} (h : s.port.offer = none) (header : BitVec 64) (data : List DataUnit) :
    exec (.requestOffer header data) s = .next (evaluate (decodeUpRequest header data) s) := by
  have hexec : exec (.requestOffer header data) s = execRequestOffer header data s := rfl
  rw [hexec, execRequestOffer, h]

/-- R151. An EMPTY offer place stays as it is when the request leaves it. -/
theorem setOffer_none_of_empty {s : State} (h : s.port.offer = none) : setOffer none s = s := by
  rw [setOffer, ← h]
  rfl

theorem evaluate_of_stall {s : State} {r : UpRequest} (h : judge s r = .stall) :
    evaluate r s = setOffer (some r) s := by
  rw [evaluate, h]

theorem evaluate_of_refused {s : State} {r : UpRequest} {reason : Reason} {k : Option StreamId}
    (h : judge s r = .refused reason k) :
    evaluate r s = refuseRequest r.initiator r.transaction reason k (setOffer none s) := by
  rw [evaluate, h]

theorem evaluate_of_toPass {s : State} {r : UpRequest} (h : judge s r = .toPass) :
    evaluate r s = acceptPass r (setOffer none s) := by
  rw [evaluate, h]

/-! ### Malformed requests (R61) -/

theorem malformed_iff (r : UpRequest) :
    malformed r = true ↔
      r.length = 0 ∨ 9 ≤ r.length ∨ r.unitAddr.toNat / 128 ≠ (r.unitAddr.toNat + r.length - 1) / 128 := by
  rw [malformed, Bool.or_eq_true, Bool.or_eq_true, decide_eq_true_iff, decide_eq_true_iff, decide_eq_true_iff, or_assoc]
  rfl

/-- R60. The stall step passes exactly in the modes that evaluate what is offered. -/
theorem Mode.admits_iff (m : Mode) : m.admits = true ↔ ¬ (m = .quiescing ∨ m = .quiesced) := by
  cases m <;> decide

theorem judge_of_malformed {s : State} {r : UpRequest} (hmode : s.ctl.mode.admits = true) (h : malformed r = true) :
    judge s r = .refused .malformed none := by
  rw [judge, if_neg ((Mode.admits_iff _).1 hmode), if_pos h]

/-! ### A refusal without a stream (R72, R135) -/

/-- R72, R135. With PORT_REFUSE_SEEN set, the refusal is its answer and no more. -/
theorem refuseRequest_of_portRefuseSeen {s : State} (h : s.events.portRefuseSeen = true) (i : BitVec 5) (t : Byte)
    (reason : Reason) :
    refuseRequest i t reason none s =
      emitUp { initiator := i, transaction := t, status := .refused reason, data := [] } s := if_pos h

/-- R72, R135. With PORT_REFUSE_SEEN clear, the answered refusal records its event and sets the latch. -/
theorem refuseRequest_of_not_portRefuseSeen {s : State} (h : s.events.portRefuseSeen = false) (i : BitVec 5) (t : Byte)
    (reason : Reason) :
    let answered := emitUp { initiator := i, transaction := t, status := .refused reason, data := [] } s
    let recorded := recordNow .refused none (some (i, t)) reason.code s.timer.slot answered
    refuseRequest i t reason none s =
      recorded.withEvents { recorded.events with portRefuseSeen := true } := if_neg (Bool.eq_false_iff.1 h)

/-- Settles O40: the form check is R61's arithmetic, and the refusal that it gives names no stream. -/
theorem malformedRequestsAreRefused : Obligations.MalformedRequestsAreRefused := by
  refine fun s header data => ⟨malformed_iff _, fun hempty hmode hbad => ?_⟩
  have hexec : exec (.requestOffer header data) s =
      .next (refuseRequest (decodeUpRequest header data).initiator (decodeUpRequest header data).transaction
        .malformed none s) := by
    rw [exec_requestOffer_of_empty hempty, evaluate_of_refused (judge_of_malformed hmode hbad),
      setOffer_none_of_empty hempty]
  refine ⟨fun hseen => ?_, fun hclear => ?_⟩
  · rw [hexec, refuseRequest_of_portRefuseSeen hseen]
    rfl
  · rw [hexec, refuseRequest_of_not_portRefuseSeen hclear]
    rfl

/-! ### The free counts (R57) -/

/-- R57. What the stream queues hold, read queue by queue. -/
theorem streamHeld_eq_flatMap (s : State) : streamHeld s = (List.finRange 24).flatMap fun k => queueOf s k := by
  rw [streamHeld, s.store.queues.cells_eq_ofFn, List.ofFn_eq_map]
  rfl

theorem length_allHeld (s : State) : (allHeld s).length = heldCount s := by
  rw [allHeld, List.length_append, streamHeld_eq_flatMap, List.length_flatMap, heldCount]

theorem freeDescriptors_eq (s : State) : freeDescriptors s = 128 - heldCount s := by
  rw [freeDescriptors, length_allHeld]

theorem freeUnits_eq (s : State) :
    freeUnits s = 384 - ((((List.finRange 24).flatMap fun k => queueOf s k) ++ s.store.pass).map fun d =>
      if d.kind = .write then d.length else 0).sum := by
  rw [freeUnits, allHeld, streamHeld_eq_flatMap]
  rfl

/-! ### Admission in PASS (R63) -/

/-- R57. Data units suffice for a request when they do for a WRITE's length; a READ takes none. -/
theorem writeUnits_le_iff (r : UpRequest) (n : Nat) :
    UpRequest.writeUnits r ≤ n ↔ (r.kind = .write → r.length ≤ n) := by
  rw [UpRequest.writeUnits]
  by_cases hkind : r.kind = .write
  · simp [hkind]
  · simp [hkind]

theorem passFits_iff (s : State) (r : UpRequest) :
    passFits s r = true ↔ 1 ≤ freeDescriptors s ∧ (r.kind = .write → r.length ≤ freeUnits s) := by
  rw [passFits, Bool.and_eq_true, decide_eq_true_iff, decide_eq_true_iff, writeUnits_le_iff]

/-- R63. In PASS the form checks leave the decision to the free counts. -/
theorem judge_of_pass {s : State} {r : UpRequest} (hmode : s.ctl.mode = .pass) (hform : malformed r = false)
    (htag : duplicate s r = false) : judge s r = if passFits s r then .toPass else .stall := by
  simp [judge, hmode, hform, htag]

/-- Settles O42: past the form checks, whether the request fits decides between the pass queue and the offer place. -/
theorem passAdmitsWhatFits : Obligations.PassAdmitsWhatFits := by
  refine fun s header data => ⟨freeDescriptors_eq s, freeUnits_eq s, fun hmode hempty hform htag => ?_⟩
  have hjudge := judge_of_pass hmode hform htag
  refine ⟨fun hfits => ?_, fun hfull => ?_⟩
  · rw [if_pos ((passFits_iff _ _).2 hfits)] at hjudge
    rw [exec_requestOffer_of_empty hempty, evaluate_of_toPass hjudge, setOffer_none_of_empty hempty]
    rfl
  · rw [if_neg (mt (passFits_iff _ _).1 hfull)] at hjudge
    rw [exec_requestOffer_of_empty hempty, evaluate_of_stall hjudge]
    rfl

end Sys2Proof.Machine

/-! PROOFS. The Outstanding Table at the two resets (R99, R111): power-on reset frees every entry, and the RESET command
takes from each entry its stream alone. -/
namespace Sys2Proof.Machine
open Sys2Proof

/-! ### Power-on reset -/

theorem exec_powerOnReset (s : State) :
    exec .powerOnReset s = .next
      ((State.reset.withPending s.pending).withTimer { Timer.reset with line := s.timer.line, sample := s.timer.line }) :=
  rfl

/-- R99. Every entry is FREE after power-on reset. -/
theorem reset_table_get (e : Tag) : State.reset.table.get e = .free := Table.get_replicate _ e

/-! ### The RESET command -/

/-- R111. Neither the refusals before the blocks' part nor the record and the re-evaluation after it touch the table. -/
theorem resetCommand_table (s : State) : (resetCommand s).table = s.table.map Entry.forget :=
  calc (resetCommand s).table
      = (resetBlocks (refuseQueued s)).table := by rw [resetCommand, reevaluate_table, recordControl_table]
    _ = (refuseQueued s).table.map Entry.forget := rfl
    _ = s.table.map Entry.forget := by rw [refuseQueued_table]

@[simp] theorem answer_table (seq : Byte) (st : Status) (payload : List Byte) (s : State) :
    (answer seq st payload s).table = s.table := rfl

/-- R125. RESET without arguments is taken in every state. -/
theorem exec_reset_nil (seq : Byte) (s : State) :
    exec (.reset seq []) s = .next
      (answer seq .ok [natByte (allHeld (placeResponse s)).length] (resetCommand (placeResponse s))) := rfl

/-- Settles O30: both resets are taken in every state, and each has the table written out by a lemma above. -/
theorem outstandingTableAtTheResets : Obligations.OutstandingTableAtTheResets := by
  refine ⟨fun s t e hexec => ?_, fun s t seq e hexec => ?_, fun s seq => ⟨exec_next _ s, exec_next _ s⟩⟩
  · rw [exec_powerOnReset] at hexec
    cases hexec
    rw [State.withTimer_table, State.withPending_table, reset_table_get]
  · rw [exec_reset_nil] at hexec
    cases hexec
    rw [answer_table, resetCommand_table, placeResponse_table, Table.get_map]
    cases s.table.get e with
    | free => rfl
    | inFlight h => rfl
    | orphaned h => rfl

end Sys2Proof.Machine

/-! PROOFS. READ_EVENTS (R133): which records it takes, what it refuses, and where a payload carries each field of the
records it returns (Table 12-7). -/
namespace Sys2Proof.Machine
open Sys2Proof

/-! ### The fifteen bytes of a record (Table 12-7) -/

/-- R170. A kind's code is its place in Table 8-1. -/
theorem EventKind.code_eq_idxOf (k : EventKind) : k.code = kindOrder.idxOf k := by cases k <;> rfl

theorem EventKind.code_lt (k : EventKind) : k.code < 32 := by cases k <;> decide

/-- Two bytes that pack three numbers of 5, 5 and 6 bits, the first in the highest bits, give each of them back. -/
theorem beNat_bytes16_packed {a b c : Nat} (ha : a < 32) (hb : b < 32) (hc : c < 64) :
    let n := beNat (bytes16 (BitVec.ofNat 5 a ++ BitVec.ofNat 5 b ++ BitVec.ofNat 6 c))
    n / 2048 = a ∧ n / 64 % 32 = b ∧ n % 64 = c := by
  have hvalue : beNat (bytes16 (BitVec.ofNat 5 a ++ BitVec.ofNat 5 b ++ BitVec.ofNat 6 c)) = 2048 * a + 64 * b + c := by
    rw [beNat_bytes16, BitVec.toNat_append, BitVec.toNat_append, BitVec.toNat_ofNat, BitVec.toNat_ofNat,
      BitVec.toNat_ofNat, Nat.mod_eq_of_lt ha, Nat.mod_eq_of_lt hb, Nat.mod_eq_of_lt hc,
      ← Nat.shiftLeft_add_eq_or_of_lt hc, ← Nat.shiftLeft_add_eq_or_of_lt hb, Nat.shiftLeft_eq, Nat.shiftLeft_eq]
    omega
  dsimp only
  rw [hvalue]
  omega

/-- A five-bit number keeps its value in a byte of its own. -/
theorem beNat_setWidth_byte (i : BitVec 5) : beNat [BitVec.setWidth 8 i] = i.toNat := by
  rw [beNat_singleton, BitVec.toNat_setWidth, Nat.mod_eq_of_lt (i.isLt.trans (by decide))]

theorem EventRecord.length_bytes (r : EventRecord) : r.bytes.length = 15 := by
  obtain ⟨kind, stream, _ | ⟨i, t⟩, detail, frame, slot, tick⟩ := r <;> rfl

/-- Table 12-7. A record's own bytes report it, whatever follows them. -/
theorem EventRecord.bytes_reported (r : EventRecord) (rest : List Byte) : RecordReported r (r.bytes ++ rest) 0 := by
  obtain ⟨kind, stream, request, detail, frame, slot, tick⟩ := r
  have hstream : (match stream with | some k => k.val | none => 31) < 32 := by
    cases stream with
    | none => decide
    | some k => exact k.isLt.trans (by decide)
  have hslot : (match slot with | some k => k.val | none => 63) < 64 := by
    cases slot with
    | none => decide
    | some k => exact k.isLt.trans (by decide)
  obtain ⟨hkind, hstream, hslot⟩ := beNat_bytes16_packed kind.code_lt hstream hslot
  refine ⟨hkind.trans kind.code_eq_idxOf, hstream, hslot, ?_⟩
  cases request with
  | none => exact ⟨rfl, rfl, beNat_bytes24_ofNat, beNat_bytes32 frame, beNat_bytes32 tick⟩
  | some q =>
    exact ⟨beNat_setWidth_byte q.1, beNat_singleton q.2, beNat_bytes24_ofNat, beNat_bytes32 frame, beNat_bytes32 tick⟩

/-! ### Records in a payload -/

theorem field_drop (p : List Byte) (start offset size : Nat) :
    field (p.drop start) offset size = field p (start + offset) size := by
  rw [field, field, List.drop_drop]

/-- A record is reported at an offset when it is reported at the front of what stands from there. -/
theorem RecordReported.of_drop {r : EventRecord} {p : List Byte} {offset : Nat}
    (h : RecordReported r (p.drop offset) 0) : RecordReported r p offset := by
  simpa only [RecordReported, field_drop, Nat.zero_add, Nat.add_zero] using h

theorem length_flatMap_bytes (rs : List EventRecord) : (rs.flatMap EventRecord.bytes).length = 15 * rs.length := by
  induction rs with
  | nil => rfl
  | cons r rs ih =>
    rw [List.flatMap_cons, List.length_append, r.length_bytes, ih, List.length_cons]
    omega

/-- Each record's bytes stand fifteen further than those of the record before it. -/
theorem drop_flatMap_bytes {rs : List EventRecord} {j : Nat} {r : EventRecord} (h : rs[j]? = some r) :
    (rs.flatMap EventRecord.bytes).drop (15 * j) = r.bytes ++ (rs.drop (j + 1)).flatMap EventRecord.bytes := by
  induction rs generalizing j with
  | nil => cases h
  | cons x rs ih =>
    cases j with
    | zero =>
      cases h
      rfl
    | succ j =>
      have hskip : 15 * (j + 1) = x.bytes.length + 15 * j := by rw [x.length_bytes]; omega
      rw [List.flatMap_cons, hskip, List.drop_length_add_append, ih h]
      rfl

/-! ### READ_EVENTS -/

theorem exec_readEvents (seq : Byte) (args : List Byte) (s : State) :
    exec (.readEvents seq args) s = .next (respond seq true (cmdReadEvents args) s) := rfl

theorem cmdReadEvents_of_length_ne {args : List Byte} (h : args.length ≠ 1) (s : State) :
    cmdReadEvents args s = refusal .badArgument s := by
  match args, h with
  | [], _ => rfl
  | _ :: _ :: _, _ => rfl

theorem cmdReadEvents_of_out_of_range {k : Byte} (h : k.toNat = 0 ∨ 8 < k.toNat) (s : State) :
    cmdReadEvents [k] s = refusal .badArgument s := if_neg (by omega)

theorem cmdReadEvents_of_empty {k : Byte} (hk : 1 ≤ k.toNat ∧ k.toNat ≤ 8) {s : State} (h : s.events.records = []) :
    cmdReadEvents [k] s = refusal .noData s :=
  (if_pos hk).trans (if_pos (List.isEmpty_iff.2 h))

theorem cmdReadEvents_of_nonempty {k : Byte} (hk : 1 ≤ k.toNat ∧ k.toNat ≤ 8) {s : State}
    (h : s.events.records ≠ []) :
    cmdReadEvents [k] s =
      accepted
        (natByte (s.events.records.take k.toNat).length :: natByte (s.events.records.drop k.toNat).length
          :: (s.events.records.take k.toNat).flatMap EventRecord.bytes)
        (s.withEvents { s.events with records := s.events.records.drop k.toNat }) :=
  (if_pos hk).trans (if_neg (mt List.isEmpty_iff.1 h))

/-- The front part that is as long as asked for, or all there is, is what `take` gives, and the rest what `drop`
gives. -/
theorem take_drop_of_length_eq_min {α : Type} {n : Nat} {all front back : List α} (hsplit : all = front ++ back)
    (hlen : front.length = min n all.length) : all.take n = front ∧ all.drop n = back := by
  subst hsplit
  rw [List.length_append] at hlen
  rcases Nat.lt_or_ge front.length n with hn | hn
  · have hback : back = [] := List.length_eq_zero_iff.1 (by omega)
    rw [hback, List.append_nil]
    exact ⟨List.take_of_length_le hn.le, List.drop_of_length_le hn.le⟩
  · have hfront : n = front.length := by omega
    rw [hfront]
    exact ⟨List.take_left, List.drop_left⟩

/-- Settles O28: the argument check comes first, then an empty queue; otherwise the records split where `take` and
`drop` split them, and each returned record is reported fifteen bytes after the one before. -/
theorem readEventsTakesTheOldest : Obligations.ReadEventsTakesTheOldest := by
  refine fun s₀ seq k args => ⟨?_, fun hlo hhi hempty => ?_, fun taken held hlo hhi hsplit htaken hlen => ?_⟩
  · rintro (hargs | ⟨rfl, hk⟩)
    · rw [exec_readEvents, respond_of_refusal (cmdReadEvents_of_length_ne hargs _)]
    · rw [exec_readEvents, respond_of_refusal (cmdReadEvents_of_out_of_range hk _)]
  · rw [exec_readEvents, respond_of_refusal (cmdReadEvents_of_empty ⟨hlo, hhi⟩ hempty)]
  · have hrecords : (placeResponse s₀).events.records ≠ [] := by
      rw [hsplit]
      exact List.append_ne_nil_of_left_ne_nil htaken held
    obtain ⟨htake, hdrop⟩ := take_drop_of_length_eq_min hsplit hlen
    have hcmd := cmdReadEvents_of_nonempty ⟨hlo, hhi⟩ hrecords
    rw [htake, hdrop] at hcmd
    refine ⟨?_, ?_, fun j r hj => .of_drop ?_⟩
    · rw [exec_readEvents, respond_of_accepted hcmd]
      rfl
    · rw [List.length_cons, List.length_cons, length_flatMap_bytes]
      omega
    · rw [Nat.add_comm 2, List.drop_succ_cons, List.drop_succ_cons, drop_flatMap_bytes hj]
      exact r.bytes_reported _

end Sys2Proof.Machine

namespace Sys2Proof.Machine
open Sys2Proof
set_option Elab.async false

/-! PROOFS. What a step is made of: every effect of a command but the power-on reset and the arrival of a new offer is a
sequence of the changes listed here, each with what is known where it is made. A law that every change keeps is kept by
every command. -/

/-! ### The changes -/

/-- R14, R15. The credit of one entry is at most its cap, and 0 while DISABLED. -/
abbrev StreamEntry.CreditOk (e : StreamEntry) : Prop := e.credit ≤ e.cap ∧ (e.state = .disabled → e.credit = 0)

/-- R144. The latency values of one group agree with its completed responses. -/
abbrev StreamStats.LatencyOk (g : StreamStats) : Prop :=
  g.completed = 0#32 → g.latencyMin = 0xFFFFFFFF#32 ∧ g.latencyMax = 0#32 ∧ g.latencySum = 0#32

/-- An entry changes without a close and without a write of its limit or its reserve. -/
structure StreamEntry.Adapts (e e' : StreamEntry) : Prop where
  queueLimit : e'.queueLimit = e.queueLimit
  reserve : e'.reserve = e.reserve
  disabled : e'.state = .disabled → e.state = .disabled
  credit : e.CreditOk → e'.CreditOk

theorem StreamEntry.Adapts.refl (e : StreamEntry) : e.Adapts e := ⟨rfl, rfl, id, id⟩

/-- A request without its counted-late mark. -/
def Descriptor.unmarked (d : Descriptor) : Descriptor := { d with late := false }

/-- The upstream tag of a queued request. -/
def Descriptor.upTag (d : Descriptor) : UpTag := (d.initiator, d.transaction)
/-- The upstream tag of a request in an Outstanding Table entry. -/
def Held.upTag (h : Held) : UpTag := (h.initiator, h.transaction)
/-- The upstream tag of an offered request. -/
def requestTag (r : UpRequest) : UpTag := (r.initiator, r.transaction)
/-- The upstream tag of a response. -/
def responseTag (x : UpResponse) : UpTag := (x.initiator, x.transaction)

/-- The fields of which the laws of mode, schedule, timer and timing speak. -/
structure Regime where
  ctl : Control
  timer : Timer
  settings : Settings
  active : Bank
  staged : Bank

/-- The regime of a state. -/
def State.regime (s : State) : Regime := ⟨s.ctl, s.timer, s.settings, s.active, s.staged⟩

/-- `s` under the regime `r`. -/
def State.withRegime (s : State) (r : Regime) : State :=
  { s with ctl := r.ctl, timer := r.timer, settings := r.settings, active := r.active, staged := r.staged }

/-- The laws of mode, schedule, timer and timing, which hold together. -/
abbrev RegimeLaw (s : State) : Prop := ModeLaw s ∧ ScheduleLaw s ∧ TimerLaw s ∧ TimingLaw s

/-- One change of the state, from what it is made of in the model, with what is known where it is made. -/
inductive Change : State → State → Prop
  /-- R130. A record is presented. -/
  | record (r : EventRecord) (s : State) : Change s (present r s)
  /-- The global counters change. -/
  | globals (f : GlobalStats → GlobalStats) (s : State) : Change s (updGlobals f s)
  /-- A stream's counters change. -/
  | group (k : StreamId) (f : StreamStats → StreamStats) (s : State) (h : ∀ g, g.LatencyOk → (f g).LatencyOk) :
      Change s (updStats k f s)
  /-- R148. The snapshot buffer changes. -/
  | snapshot (x : Option Snapshot) (s : State) : Change s (s.withStats { s.stats with snapshot := x })
  /-- Stream entries change, none by a close or a write. -/
  | entries (x : Table numStreams StreamEntry) (s : State) (h : ∀ k, (s.streams.get k).Adapts (x.get k)) :
      Change s (s.withStreams x)
  /-- R133, R136. The oldest records leave, or the global latches change. -/
  | events (e : Events) (s : State) (h : e.records <:+ s.events.records) : Change s (s.withEvents e)
  | link (l : Link) (s : State) : Change s (s.withLink l)
  | dp (d : Down) (s : State) : Change s (s.withDp d)
  | engine (e : Engine) (s : State) : Change s (s.withEngine e)
  /-- R72. The offered request is refused. -/
  | refuse (r : UpRequest) (x : UpResponse) (s : State) (hoffer : s.port.offer = some r)
    (htag : responseTag x = requestTag r) :
      Change s (s.withPort { offer := none, sent := s.port.sent ++ [x] })
  /-- R63. The offered request is accepted into the pass queue. -/
  | toPass (r : UpRequest) (s : State) (hoffer : s.port.offer = some r) (h : judge s r = .toPass) :
      Change s (acceptPass r (setOffer none s))
  /-- R71. The offered request is accepted into a stream's queue. -/
  | toStream (k : StreamId) (r : UpRequest) (s : State) (hoffer : s.port.offer = some r) (h : judge s r = .toStream k) :
      Change s ((setOffer none s).withStore
        { s.store with
          queues := s.store.queues.set k (queueOf s k ++ [newDescriptor s r]), nextSeq := s.store.nextSeq + 1 })
  /-- R75. Queued requests are marked late. -/
  | mark (k : StreamId) (q : List Descriptor) (s : State)
      (h : q.map Descriptor.unmarked = (queueOf s k).map Descriptor.unmarked) : Change s (setQueue k q s)
  /-- R91. A stream's head takes a FREE entry. -/
  | send (k : StreamId) (d : Descriptor) (rest : List Descriptor) (t : Tag) (s : State) (hq : queueOf s k = d :: rest)
      (ht : s.table.get t = .free) :
      Change s (setEntry t (.inFlight (d.held (.stream k) s.timer.tick)) (setQueue k rest s))
  /-- R80, R91. The pass queue's head takes a FREE entry. -/
  | sendPass (d : Descriptor) (rest : List Descriptor) (t : Tag) (s : State) (hq : s.store.pass = d :: rest)
      (ht : s.table.get t = .free) :
      Change s (setEntry t (.inFlight (d.held .pass s.timer.tick)) (setPass rest s))
  /-- R102, R106. An IN_FLIGHT entry is answered and becomes FREE or ORPHANED. -/
  | answer (t : Tag) (h : Held) (e : Entry) (x : UpResponse) (s : State) (ht : s.table.get t = .inFlight h)
      (he : e = .free ∨ e = .orphaned h) (htag : responseTag x = h.upTag) : Change s (setEntry t e (emitUp x s))
  /-- R109. An ORPHANED entry becomes FREE. -/
  | discard (t : Tag) (h : Held) (s : State) (ht : s.table.get t = .orphaned h) : Change s (setEntry t .free s)
  /-- R11, R12. A stream that holds nothing closes. -/
  | close (k : StreamId) (s : State) (hq : queueOf s k = []) (hf : inFlightCount s k = 0) :
      Change s (updStream k (fun e => { e with state := .disabled, credit := 0 }) s)
  /-- R3 to R6, R16. A WRITE_STREAM that its checks let pass. -/
  | write (k : StreamId) (e : StreamEntry) (s : State) (hstate : e.state = (s.streams.get k).state)
      (hcredit : (s.streams.get k).CreditOk → e.CreditOk)
      (hlimit : e.queueLimit = (s.streams.get k).queueLimit ∨ queuedCount s k ≤ e.queueLimit.toNat)
      (hreserve : e.reserve = (s.streams.get k).reserve ∨
        (reserveSum (s.streams.set k e) ≤ 128 ∧
          reserveShortfall (s.withStreams (s.streams.set k e)) ≤ freeDescriptors s + passCount s)) :
      Change s (s.withStreams (s.streams.set k e))
  /-- R18. A stream's queue is refused and emptied. -/
  | flush (k : StreamId) (reason : Reason) (s : State) :
      Change s ((setQueue k [] s).withPort
        { s.port with sent := s.port.sent ++ (queueOf s k).map (refusedResponse reason) })
  /-- R118, R119. Every stream-queued request moves behind the pass queue, and the mode becomes PASS. -/
  | merge (r : Regime) (moved : List Descriptor) (s : State) (hmoved : moved.Perm (streamHeld s))
      (hmode : r.ctl.mode = .pass) (hlaw : RegimeLaw s → RegimeLaw (s.withRegime r)) :
      Change s ((s.withRegime r).withStore
        { s.store with queues := Table.replicate numStreams [], pass := s.store.pass ++ moved })
  /-- The regime changes, within its own laws and that of the queues. -/
  | regime (r : Regime) (s : State) (hlaw : RegimeLaw s → RegimeLaw (s.withRegime r))
      (hqueue : QueueLaw s → QueueLaw (s.withRegime r)) : Change s (s.withRegime r)
  /-- R125. Every queued request is refused and every block reset. -/
  | reset (refused : List Descriptor) (s : State) (h : refused.Perm (allHeld s)) :
      Change s (resetBlocks (s.withPort
        { s.port with sent := s.port.sent ++ refused.map (refusedResponse .reset) }))

/-- A sequence of changes. -/
abbrev Changes : State → State → Prop := Relation.ReflTransGen Change

theorem Change.one {s t : State} (h : Change s t) : Changes s t := .single h

/-- A law that every change keeps, every sequence of changes keeps. -/
theorem Changes.keep {P : State → Prop} (hkeep : ∀ s t, Change s t → P s → P t) {s t : State} (h : Changes s t)
    (hs : P s) : P t := by
  induction h with
  | refl => exact hs
  | tail _ hstep ih => exact hkeep _ _ hstep ih

theorem changes_foldl {α : Type} {g : State → α → State} (h : ∀ s a, Changes s (g s a)) (l : List α) (s : State) :
    Changes s (l.foldl g s) := by
  induction l generalizing s with
  | nil => exact .refl
  | cons a l ih => exact (h s a).trans (ih _)

theorem changes_iterate {g : State → State} (h : ∀ s, Changes s (g s)) (n : Nat) (s : State) : Changes s (g^[n] s) := by
  induction n generalizing s with
  | zero => exact .refl
  | succ n ih => exact (h s).trans (ih _)

/-! ### Records, latches and counters -/

theorem changes_recordNow (kind : EventKind) (stream : Option StreamId) (request : Option (BitVec 5 × Byte))
    (detail : Nat) (slot : Option SlotId) (s : State) : Changes s (recordNow kind stream request detail slot s) :=
  (Change.record _ s).one

theorem changes_recordControl (kind : EventKind) (detail : Nat) (s : State) :
    Changes s (recordControl kind detail s) := (Change.record _ s).one

/-- One entry changes, the others stay. -/
theorem changes_updStream {k : StreamId} {f : StreamEntry → StreamEntry} {s : State}
    (h : (s.streams.get k).Adapts (f (s.streams.get k))) : Changes s (updStream k f s) := by
  refine (Change.entries _ s fun j => ?_).one
  rw [Table.get_set]
  split
  · next hj => exact hj ▸ h
  · exact .refl _

theorem changes_recordRefused (i : BitVec 5) (t : Byte) (reason : Reason) (k : Option StreamId) (s : State) :
    Changes s (recordRefused i t reason k s) := by
  cases k with
  | none =>
    by_cases hseen : s.events.portRefuseSeen = true
    · rw [recordRefused, if_pos hseen]
    · rw [recordRefused, if_neg hseen]
      refine (changes_recordNow ..).trans (Change.events _ _ ?_).one
      exact List.suffix_refl _
  | some k =>
    by_cases hseen : (s.streams.get k).refusedSeen = true
    · rw [recordRefused_of_refusedSeen hseen]
    · rw [recordRefused_of_not_refusedSeen hseen]
      exact (changes_recordNow ..).trans (changes_updStream ⟨rfl, rfl, id, id⟩)

theorem changes_countRefused (k : Option StreamId) (s : State) : Changes s (countRefused k s) := by
  cases k with
  | none => exact .refl
  | some k =>
    exact (Change.group k (fun g => { g with refusedRequests := satAdd g.refusedRequests 1 }) s fun _ h => h).one

theorem changes_updStatsOf {f : StreamStats → StreamStats} (hf : ∀ g, g.LatencyOk → (f g).LatencyOk) (a : Attribution)
    (s : State) : Changes s (updStatsOf a f s) := by
  cases a with
  | stream k => exact (Change.group k f s hf).one
  | pass => exact .refl
  | nobody => exact .refl

/-! ### Admission and deadlines -/

theorem changes_evaluate {r : UpRequest} {s : State} (hoffer : s.port.offer = some r) : Changes s (evaluate r s) := by
  obtain ⟨-, h⟩ | ⟨reason, k, -, h⟩ | ⟨hjudge, h⟩ | ⟨k, hjudge, h⟩ := evaluate_cases r s
  · have hsame : setOffer (some r) s = s := by rw [setOffer, ← hoffer]; rfl
    rw [h, hsame]
  · rw [h, refuseRequest]
    exact ((Change.refuse r _ s hoffer rfl).one.trans (changes_countRefused k _)).trans (changes_recordRefused ..)
  · rw [h]
    exact (Change.toPass r s hoffer hjudge).one
  · rw [h]
    exact (Change.toStream k r s hoffer hjudge).one.trans
      ((Change.group k (StreamStats.countAccepted r.length (queueOf s k ++ [newDescriptor s r]).length) _
        fun _ h => h).one.trans (Change.engine _ _).one)

/-- R73. The evaluation of a stalled request is made of changes. -/
theorem changes_reevaluate (s : State) : Changes s (reevaluate s) := by
  cases h : s.port.offer with
  | none => rw [reevaluate_none h]
  | some r =>
    rw [reevaluate_some h]
    exact changes_evaluate h

theorem map_unmarked_markLate (p : Descriptor → Bool) (q : List Descriptor) :
    (markLate p q).map Descriptor.unmarked = q.map Descriptor.unmarked := by
  induction q with
  | nil => rfl
  | cons d q ih =>
    rw [markLate]
    split
    · rfl
    · rw [List.map_cons, List.map_cons, ih]

theorem changes_cross (k : StreamId) (d : Descriptor) (s : State) : Changes s (cross k d s) := by
  have hmark : Changes s (setQueue k (markLate (crossingDue s k) (queueOf s k)) s) :=
    (Change.mark k _ s (map_unmarked_markLate _ _)).one
  have hcount := hmark.trans
    (Change.group k (fun g => { g with lateRequests := satAdd g.lateRequests 1 }) _ fun _ h => h).one
  rw [cross]
  split
  · exact hcount
  · exact (hcount.trans (changes_recordNow ..)).trans (changes_updStream ⟨rfl, rfl, id, id⟩)

theorem changes_crossOldest (s : State) : Changes s (crossOldest s) := by
  rw [crossOldest]
  split
  · exact .refl
  · exact changes_cross ..

theorem changes_crossIn (k : StreamId) (s : State) : Changes s (crossIn k s) := by
  rw [crossIn]
  split
  · exact .refl
  · exact changes_cross ..

theorem changes_crossAll (s : State) : Changes s (crossAll s) := changes_iterate changes_crossOldest _ s

/-! ### Completions -/

theorem changes_closeStream {k : StreamId} {s : State} (hq : queueOf s k = []) (hf : inFlightCount s k = 0)
    (detail : Nat) : Changes s (closeStream k detail s) :=
  (Change.close k s hq hf).one.trans (changes_recordNow ..)

theorem drained_iff (s : State) (k : StreamId) :
    drained s k = true ↔ (s.streams.get k).state = .draining ∧ queueOf s k = [] ∧ inFlightCount s k = 0 := by
  simp [drained, queuedCount, and_assoc]

theorem changes_closeIfDrained (k : StreamId) (s : State) : Changes s (closeIfDrained k s) := by
  rw [closeIfDrained]
  split
  · next h =>
    obtain ⟨-, hq, hf⟩ := (drained_iff s k).1 h
    exact changes_closeStream hq hf 1
  · exact .refl

/-- The regime changes its control alone. -/
theorem changes_withCtl {c : Control} {s : State} (hlaw : RegimeLaw s → RegimeLaw (s.withCtl c))
    (hqueue : QueueLaw s → QueueLaw (s.withCtl c)) : Changes s (s.withCtl c) :=
  (Change.regime { s.regime with ctl := c } s hlaw hqueue).one

/-- The regime changes its timer alone. -/
theorem changes_withTimer {t : Timer} {s : State} (hlaw : RegimeLaw s → RegimeLaw (s.withTimer t)) :
    Changes s (s.withTimer t) :=
  (Change.regime { s.regime with timer := t } s hlaw fun h => h).one

/-! ### The regime: modes and quiesces -/

/-- The laws of the regime read the regime alone. -/
theorem RegimeLaw.congr {s t : State} (h : t.regime = s.regime) (hs : RegimeLaw s) : RegimeLaw t := by
  obtain ⟨_, _, _, _, active, staged, settings, timer, _, _, _, _, ctl, _, _⟩ := s
  obtain ⟨_, _, _, _, _, _, _, _, _, _, _, _, _, _, _⟩ := t
  cases h
  exact hs

/-- The law of the queues reads the store, the mode and the return mode alone. -/
theorem QueueLaw.congr {s t : State} (hstore : t.store = s.store) (hmode : t.ctl.mode = s.ctl.mode)
    (hreturn : t.ctl.returnMode = s.ctl.returnMode) (hs : QueueLaw s) : QueueLaw t := by
  simpa only [QueueLaw, queueOf, hstore, hmode, hreturn] using hs

theorem stoppedMode_of_quiesce {c : Control} (h : c.mode = .quiescing ∨ c.mode = .quiesced) :
    stoppedMode c = decide (c.returnMode = .pass) := by
  rcases h with h | h <;> rw [stoppedMode, h]

theorem quiesceDue_iff (s : State) :
    quiesceDue s = true ↔ s.ctl.mode = .quiescing ∧ quiesceQueues s = true ∧ inFlightTotal s = 0 := by
  simp [quiesceDue, and_assoc]

/-- R122. QUIESCING becomes QUIESCED, with nothing pending. -/
theorem regimeLaw_quiesced {s : State} (hmode : s.ctl.mode = .quiescing) (h : RegimeLaw s) :
    RegimeLaw (s.withCtl { s.ctl with mode := .quiesced, pendingOp := .none }) := by
  obtain ⟨⟨-, -, -, hstop⟩, ⟨hactive, -⟩, htimer, htiming⟩ := h
  refine ⟨⟨?_, ?_, ?_, ?_⟩, ⟨hactive, ?_⟩, htimer, htiming⟩
  · simp
  · simp
  · simp
  · rw [stoppedMode_of_quiesce (.inl hmode)] at hstop
    rw [stoppedMode_of_quiesce (.inr rfl)]
    exact hstop
  · simp

theorem changes_completeQuiesce {s : State} (hmode : s.ctl.mode = .quiescing) : Changes s (completeQuiesce s) := by
  refine (changes_withCtl (regimeLaw_quiesced hmode) fun h => ?_).trans (changes_recordControl ..)
  simpa [QueueLaw, hmode, queueOf] using h

theorem changes_quiesceIfDue (s : State) : Changes s (quiesceIfDue s) := by
  rw [quiesceIfDue]
  split
  · next h => exact changes_completeQuiesce ((quiesceDue_iff s).1 h).1
  · exact .refl

theorem changes_closeOf (a : Option StreamId) (s : State) : Changes s (closeOf a s) := by
  cases a with
  | none => exact .refl
  | some k => exact changes_closeIfDrained k s

theorem changes_settleCounts (a : Option StreamId) (s : State) : Changes s (settleCounts a s) := by
  have h := (changes_closeOf a s).trans (changes_quiesceIfDue _)
  rw [settleCounts]
  split
  · exact h.trans (changes_reevaluate _)
  · exact h

/-! ### The Outstanding Table -/

/-- R140. A counter that rises is not 0. -/
theorem satAdd_one_ne_zero (c : Word) : satAdd c 1 ≠ 0#32 := by
  intro h
  have hval := congrArg BitVec.toNat h
  rw [satAdd] at hval
  split at hval
  · rw [BitVec.toNat_add, BitVec.toNat_ofNat, BitVec.toNat_ofNat] at hval
    omega
  · simp at hval

theorem latencyOk_complete (latency : Nat) (g : StreamStats) : (g.complete latency).LatencyOk :=
  fun h => absurd h (satAdd_one_ne_zero _)

theorem changes_reportError (t : Tag) (h : Held) (s : State) : Changes s (reportError t h s) :=
  (changes_updStatsOf (f := StreamStats.memoryError) (fun _ h => h) _ s).trans (changes_recordNow ..)

/-- The entry that a response frees may be freed before its event and its counters: they do not read the table. -/
theorem setEntry_updStatsOf (t : Tag) (e : Entry) (a : Attribution) (f : StreamStats → StreamStats) (s : State) :
    setEntry t e (updStatsOf a f s) = updStatsOf a f (setEntry t e s) := by cases a <;> rfl

theorem setEntry_reportError (t u : Tag) (e : Entry) (h : Held) (s : State) :
    setEntry t e (reportError u h s) = reportError u h (setEntry t e s) := by
  rw [reportError, reportError, ← setEntry_updStatsOf]
  rfl

theorem changes_forward {t : Tag} {h : Held} {s : State} (ht : s.table.get t = .inFlight h) (r : DownResponse) :
    Changes s (forward t h r s) := by
  have hanswer (x : UpResponse) (hx : responseTag x = h.upTag) : Changes s (setEntry t .free (emitUp x s)) :=
    (Change.answer t h .free x s ht (.inl rfl) hx).one
  rw [forward]
  refine .trans ?_ (changes_settleCounts ..)
  rw [setEntry_updStatsOf]
  refine .trans ?_ (changes_updStatsOf (fun g _ => latencyOk_complete _ g) ..)
  split
  · exact hanswer _ rfl
  · rw [setEntry_reportError]
    exact (hanswer _ rfl).trans (changes_reportError ..)

theorem changes_lateResponse {t : Tag} {h : Held} {s : State} (ht : s.table.get t = .orphaned h) :
    Changes s (lateResponse t h s) :=
  ((Change.discard t h s ht).one.trans (Change.globals _ _).one).trans (changes_recordNow ..)

theorem changes_unexpectedResponse (tag : BitVec 6) (s : State) : Changes s (unexpectedResponse tag s) :=
  (Change.globals _ s).one.trans (changes_recordNow ..)

theorem changes_arrive (r : DownResponse) (s : State) : Changes s (arrive r s) := by
  obtain ⟨_, e, ht, h⟩ | ⟨_, e, ht, h⟩ | ⟨-, h⟩ := arrive_cases r s
  · exact h ▸ changes_forward ht r
  · exact h ▸ changes_lateResponse ht
  · exact h ▸ changes_unexpectedResponse ..

theorem changes_expire {t : Tag} {h : Held} {s : State} (ht : s.table.get t = .inFlight h) :
    Changes s (expire t h s) := by
  have hanswer : Changes s (setEntry t (.orphaned h)
      (emitUp { initiator := h.initiator, transaction := h.transaction, status := .timeout, data := [] } s)) :=
    (Change.answer t h (.orphaned h) _ s ht (.inr rfl) rfl).one
  rw [expire]
  exact ((hanswer.trans ((changes_updStatsOf (f := StreamStats.timeout) (fun _ h => h) ..).trans (Change.globals _ _).one)).trans
    (changes_recordNow ..)).trans (changes_settleCounts ..)

theorem changes_expireIfDue (t : Tag) (s : State) : Changes s (expireIfDue t s) := by
  rw [expireIfDue]
  split
  · next h hdue => exact changes_expire (expiryDue_some.1 hdue).1
  · exact .refl

theorem changes_expireAll (s : State) : Changes s (expireAll s) :=
  changes_foldl (fun s t => changes_expireIfDue t s) _ s

/-! ### Frame starts -/

@[simp] theorem commitAtFrame_ctl (s : State) :
    (commitAtFrame s).ctl = if s.ctl.pendingOp = .commit then { s.ctl with pendingOp := .none } else s.ctl := by
  rw [commitAtFrame]
  split <;> rfl

@[simp] theorem commitAtFrame_active (s : State) :
    (commitAtFrame s).active = if s.ctl.pendingOp = .commit then s.staged else s.active := by
  rw [commitAtFrame]
  split <;> rfl

/-- R31, R132. What a frame start does before the credits: the timer's own part, its record, a pending COMMIT. -/
def frameOpened (loss : Option (EventKind × Nat)) (s : State) : State :=
  let s1 := s.withTimer (s.timer.startFrame s.settings.fsyncOut)
  commitAtFrame (match loss with
    | some (kind, detail) => recordControl kind detail s1
    | none => s1)

theorem frameStart_eq (loss : Option (EventKind × Nat)) (s : State) :
    frameStart loss s = updGlobals (fun g => { g with framesStarted := satAdd g.framesStarted 1 })
      (beginSlot 0 (renewCredits (frameOpened loss s))) := rfl

theorem frameOpened_ctl (loss : Option (EventKind × Nat)) (s : State) :
    (frameOpened loss s).ctl = if s.ctl.pendingOp = .commit then { s.ctl with pendingOp := .none } else s.ctl := by
  cases loss <;> exact commitAtFrame_ctl _

theorem frameOpened_active (loss : Option (EventKind × Nat)) (s : State) :
    (frameOpened loss s).active = if s.ctl.pendingOp = .commit then s.staged else s.active := by
  cases loss <;> exact commitAtFrame_active _

theorem frameOpened_timer (loss : Option (EventKind × Nat)) (s : State) :
    (frameOpened loss s).timer = s.timer.startFrame s.settings.fsyncOut := by
  cases loss <;> exact commitAtFrame_timer _

theorem frameStart_ctl (loss : Option (EventKind × Nat)) (s : State) :
    (frameStart loss s).ctl = if s.ctl.pendingOp = .commit then { s.ctl with pendingOp := .none } else s.ctl :=
  frameOpened_ctl loss s

theorem frameStart_active (loss : Option (EventKind × Nat)) (s : State) :
    (frameStart loss s).active = if s.ctl.pendingOp = .commit then s.staged else s.active :=
  frameOpened_active loss s

theorem frameStart_timer (loss : Option (EventKind × Nat)) (s : State) :
    (frameStart loss s).timer =
      { s.timer.startFrame s.settings.fsyncOut with
        slot := some 0, down := ((frameStart loss s).active.entries.get 0).length.toNat } := by
  rw [frameStart_eq]
  simp only [beginSlot, updGlobals_timer, updGlobals_active, State.withEngine_timer, State.withTimer_timer,
    State.withEngine_active, State.withTimer_active, renewCredits_timer, renewCredits_active, frameOpened_timer]

theorem frameStart_mode (loss : Option (EventKind × Nat)) (s : State) :
    (frameStart loss s).ctl.mode = s.ctl.mode := by rw [frameStart_ctl]; split <;> rfl

theorem frameStart_returnMode (loss : Option (EventKind × Nat)) (s : State) :
    (frameStart loss s).ctl.returnMode = s.ctl.returnMode := by rw [frameStart_ctl]; split <;> rfl

theorem frameStart_pendingOp (loss : Option (EventKind × Nat)) (s : State) :
    (frameStart loss s).ctl.pendingOp = if s.ctl.pendingOp = .commit then .none else s.ctl.pendingOp := by
  rw [frameStart_ctl]; split <;> rfl

/-- What a frame start asks of the state: everything but the place and the pulse, which it sets itself. -/
structure FrameReady (s : State) : Prop where
  mode : ModeLaw s
  schedule : ScheduleLaw s
  timing : TimingLaw s
  runs : s.timer.state.runsSlot = true
  qualifier : s.timer.qualifier = .idle ∨
    qualifierRuns s = true ∧ ∃ c ≤ s.settings.q.toNat, s.timer.qualifier = .qualifying c
  wait : s.timer.waitCount = 0
  holdover : s.timer.holdover ≤ 65535

theorem modeLaw_of_no_commit {s t : State} (hmode : t.ctl.mode = s.ctl.mode)
    (hreturn : t.ctl.returnMode = s.ctl.returnMode)
    (hpending : t.ctl.pendingOp = if s.ctl.pendingOp = .commit then .none else s.ctl.pendingOp)
    (hstate : t.timer.state = s.timer.state) (h : ModeLaw s) : ModeLaw t := by
  obtain ⟨hengage, hquiesce, hcommit, hstop⟩ := h
  have hstopped : stoppedMode t.ctl = stoppedMode s.ctl := by rw [stoppedMode, stoppedMode, hmode, hreturn]
  refine ⟨?_, ?_, ?_, by rw [hstate, hstopped, hstop]⟩
  · rw [hmode, ← hengage, hpending]
    split
    · next h => simp [h]
    · rfl
  · rw [hmode, ← hquiesce, hpending]
    split
    · next h => simp [h]
    · rfl
  · rw [hpending]
    split
    · intro h; cases h
    · next h => exact fun h' => absurd h' h

/-- 2.1. A valid bank has a slot 0. -/
theorem Bank.count_pos_of_valid {b : Bank} (h : b.fault = none) : 0 < b.count := by
  rw [Bank.fault] at h
  split at h
  · cases h
  · next hc => omega

/-- R43. A frame start brings the regime into agreement. -/
theorem FrameReady.frameStart {s : State} (h : FrameReady s) (loss : Option (EventKind × Nat)) :
    RegimeLaw (frameStart loss s) := by
  have hactive : (Machine.frameStart loss s).active.fault = none := by
    rw [frameStart_active]
    split
    · next hc => exact h.schedule.2 hc
    · exact h.schedule.1
  have hstate : (Machine.frameStart loss s).timer.state = s.timer.state := by rw [frameStart_timer]; rfl
  have hwait : (Machine.frameStart loss s).timer.waitCount = 0 := by rw [frameStart_timer]; exact h.wait
  have hslot : (Machine.frameStart loss s).timer.slot = some 0 := by rw [frameStart_timer]
  have hquiet : (Machine.frameStart loss s).ctl.pendingOp ≠ .commit := by
    rw [frameStart_pendingOp]
    split
    · simp
    · next hc => exact hc
  refine ⟨?_, ⟨hactive, fun hc => absurd hc hquiet⟩, ⟨?_, ?_, ?_, ?_, fun _ => hwait, by omega, ?_⟩, ?_, ?_⟩
  · exact modeLaw_of_no_commit (frameStart_mode ..) (frameStart_returnMode ..) (frameStart_pendingOp ..) hstate h.mode
  · rw [hslot, hstate, h.runs]
    rfl
  · intro k hk
    rw [hslot] at hk
    cases hk
    refine ⟨Bank.count_pos_of_valid hactive, ?_⟩
    rw [frameStart_timer]
  · have hq : (Machine.frameStart loss s).timer.qualifier = s.timer.qualifier := by rw [frameStart_timer]; rfl
    rw [hq, qualifierRuns, hstate, frameStart_settings]
    exact h.qualifier
  · rw [hstate, frameStart_settings, frameStart_timer]
    simp [Timer.startFrame]
  · rw [frameStart_timer]
    exact h.holdover
  · rw [hstate, frameStart_settings]
    exact h.timing.1
  · rw [qualifierRuns, hstate, frameStart_settings]
    exact h.timing.2

theorem adapts_renew (e : StreamEntry) : e.Adapts e.renew := by
  rw [StreamEntry.renew]
  split
  · exact .refl e
  · next hstate =>
    split
    · next hcarry =>
      refine ⟨rfl, rfl, id, fun _ => ⟨?_, fun h => absurd h hstate⟩⟩
      simp [StreamEntry.cap, hcarry]
    · next hcarry =>
      refine ⟨rfl, rfl, id, fun _ => ⟨?_, fun h => absurd h hstate⟩⟩
      simp [StreamEntry.cap, hcarry]

/-! ### Changes behind the regime -/

/-- What `t` has of `s` but for the regime comes by changes, whatever the regime is meanwhile. -/
def Quiet (s t : State) : Prop := ∀ q : Regime, Changes (s.withRegime q) (t.withRegime q)

theorem Quiet.trans {s t u : State} (h : Quiet s t) (h' : Quiet t u) : Quiet s u := fun q => (h q).trans (h' q)

/-- Only the regime differs. -/
theorem Quiet.of_eq {s t : State} (h : ∀ q, t.withRegime q = s.withRegime q) : Quiet s t :=
  fun q => h q ▸ .refl

theorem quiet_withTimer (t : Timer) (s : State) : Quiet s (s.withTimer t) := .of_eq fun _ => rfl

theorem Quiet.refl (s : State) : Quiet s s := .of_eq fun _ => rfl

theorem quiet_recordNow (kind : EventKind) (stream : Option StreamId) (request : Option (BitVec 5 × Byte))
    (detail : Nat) (slot : Option SlotId) (s : State) : Quiet s (recordNow kind stream request detail slot s) :=
  fun q => (Change.record
    { kind := kind, stream := stream, request := request, detail := detail, frame := s.timer.frame, slot := slot,
      tick := s.timer.tick } (s.withRegime q)).one

theorem quiet_recordControl (kind : EventKind) (detail : Nat) (s : State) : Quiet s (recordControl kind detail s) :=
  quiet_recordNow kind none none detail none s

theorem quiet_updGlobals (f : GlobalStats → GlobalStats) (s : State) : Quiet s (updGlobals f s) :=
  fun q => (Change.globals f (s.withRegime q)).one

theorem quiet_withEngine (e : Engine) (s : State) : Quiet s (s.withEngine e) :=
  fun q => (Change.engine e (s.withRegime q)).one

theorem quiet_updStats {f : StreamStats → StreamStats} (hf : ∀ g, g.LatencyOk → (f g).LatencyOk) (k : StreamId)
    (s : State) : Quiet s (updStats k f s) := fun q => (Change.group k f (s.withRegime q) hf).one

theorem quiet_updStream {k : StreamId} {f : StreamEntry → StreamEntry} {s : State}
    (h : (s.streams.get k).Adapts (f (s.streams.get k))) : Quiet s (updStream k f s) :=
  fun q => changes_updStream (s := s.withRegime q) h

theorem quiet_renewCredits (s : State) : Quiet s (renewCredits s) :=
  fun q => (Change.entries (s.streams.map StreamEntry.renew) (s.withRegime q) fun k => by
    rw [Table.get_map]
    exact adapts_renew _).one

theorem quiet_beginSlot (k : SlotId) (s : State) : Quiet s (beginSlot k s) :=
  fun q => (Change.engine { s.engine with outcome := some (freshOutcome s k (s.active.entries.get k)) }
    (s.withRegime q)).one

theorem quiet_commitAtFrame (s : State) : Quiet s (commitAtFrame s) := by
  rw [commitAtFrame]
  split
  · exact (Quiet.of_eq fun _ => rfl).trans (quiet_recordControl .commitDone s.staged.count _)
  · exact .refl s

/-- What a frame start does beside the regime. -/
theorem quiet_frameStart (loss : Option (EventKind × Nat)) (s : State) : Quiet s (frameStart loss s) := by
  have hstart := quiet_withTimer (s.timer.startFrame s.settings.fsyncOut) s
  have hopened : Quiet s (frameOpened loss s) := by
    cases loss with
    | none => exact hstart.trans (quiet_commitAtFrame _)
    | some l => exact (hstart.trans (quiet_recordControl l.1 l.2 _)).trans (quiet_commitAtFrame _)
  exact ((hopened.trans (quiet_renewCredits _)).trans (quiet_beginSlot 0 _)).trans (quiet_updGlobals _ _)

theorem latencyOk_slot (o : SlotOutcome) {g : StreamStats} (h : g.LatencyOk) : (g.slot o).LatencyOk := by
  rw [StreamStats.slot]
  split
  · exact h
  · split <;> exact h

theorem quiet_recordHeld (o : SlotOutcome) (k : StreamId) (s : State) : Quiet s (recordHeld o k s) := by
  rw [recordHeld]
  split
  · exact .refl s
  · split
    · exact .refl s
    · exact Quiet.trans (quiet_recordNow _ _ _ _ _ _) (quiet_updStream ⟨rfl, rfl, id, id⟩)

theorem quiet_classifySlot (s : State) : Quiet s (classifySlot s) := by
  rw [classifySlot]
  split
  · exact .refl s
  · next o _ =>
    have hconsumed := quiet_withEngine { s.engine with outcome := none } s
    cases ho : o.owner with
    | none => exact hconsumed
    | some k =>
      exact (hconsumed.trans (quiet_updStats (fun _ h => latencyOk_slot o h) k _)).trans (quiet_recordHeld o k _)

/-- A new regime within its laws, with what follows it. -/
theorem Quiet.changes {s t : State} (h : Quiet s t) (hlaw : RegimeLaw s → RegimeLaw t)
    (hqueue : QueueLaw s → QueueLaw (s.withRegime t.regime)) : Changes s t :=
  (Change.regime t.regime s hlaw hqueue).one.trans (h t.regime)

/-- A new regime under the same mode. -/
theorem Quiet.changes_of_mode {s t : State} (h : Quiet s t) (hmode : t.ctl.mode = s.ctl.mode)
    (hreturn : t.ctl.returnMode = s.ctl.returnMode) (hlaw : RegimeLaw s → RegimeLaw t) : Changes s t :=
  h.changes hlaw fun hs => QueueLaw.congr (s := s) rfl hmode hreturn hs

theorem classifySlot_regime (s : State) : (classifySlot s).regime = s.regime := by
  rw [State.regime, classifySlot_ctl, classifySlot_timer, classifySlot_settings, classifySlot_active,
    classifySlot_staged]
  rfl

theorem changes_classifySlot (s : State) : Changes s (classifySlot s) :=
  (quiet_classifySlot s).changes_of_mode (by rw [classifySlot_ctl]) (by rw [classifySlot_ctl])
    (.congr (classifySlot_regime s))

/-! ### The Frame Timer's events -/

/-- R42 to R51. A frame start by a timer that was not STOPPED: the state stays, or follows FSYNC on. -/
theorem FrameReady.of_running {s u : State} (h : RegimeLaw s) (hctl : u.ctl = s.ctl) (hsettings : u.settings = s.settings)
    (hactive : u.active = s.active) (hstaged : u.staged = s.staged) (hruns : u.timer.state.runsSlot = true)
    (hstate : u.timer.state = s.timer.state ∨ (qualifierRuns s = true ∧ u.timer.state ≠ .free))
    (hqualifier : u.timer.qualifier = .idle ∨ u.timer.qualifier = s.timer.qualifier)
    (hwait : u.timer.waitCount = 0) (hholdover : u.timer.holdover ≤ 65535) : FrameReady u := by
  obtain ⟨hmode, hschedule, ⟨-, -, hq, -, -, -, -⟩, hfree, hfollow⟩ := h
  have hnot : ∀ {t : TimerState}, t.runsSlot = true → t ≠ .stopped := by
    intro t ht h
    rw [h] at ht
    cases ht
  have hrun : qualifierRuns s = true → s.timer.state ≠ .stopped := by
    intro h h'
    rw [qualifierRuns, h'] at h
    cases h
  have hstopped : u.timer.state = .stopped ↔ s.timer.state = .stopped := by
    rcases hstate with h | ⟨h, -⟩
    · rw [h]
    · exact iff_of_false (hnot hruns) (hrun h)
  have hrunning : qualifierRuns s = true → qualifierRuns u = true := by
    rcases hstate with h | ⟨h, hne⟩
    · rw [qualifierRuns, qualifierRuns, h]
      exact id
    · intro _
      cases hu : u.timer.state <;> simp_all [qualifierRuns, TimerState.runsSlot]
  refine ⟨?_, ?_, ⟨?_, ?_⟩, hruns, ?_, hwait, hholdover⟩
  · simpa only [ModeLaw, hctl, hstopped] using hmode
  · simpa only [ScheduleLaw, hctl, hactive, hstaged] using hschedule
  · rw [hsettings]
    rcases hstate with h | ⟨-, h⟩
    · rw [h]
      exact hfree
    · exact fun h' => absurd h' h
  · rw [hsettings]
    rcases hstate with h | ⟨h, -⟩
    · rw [qualifierRuns, h]
      exact hfollow
    · exact fun _ => hfollow h
  · rw [hsettings]
    rcases hqualifier with h | h
    · exact .inl h
    · rw [h]
      exact hq.imp_right fun h' => ⟨hrunning h'.1, h'.2⟩

/-- R50, R51. The 16-bit counts stay within 16 bits. -/
theorem satSucc16_le {n : Nat} (h : n ≤ 65535) : satSucc16 n ≤ 65535 := by
  rw [satSucc16, maxCount16]
  split <;> omega

/-- R42. LOCKED gives way to WAIT_SYNC at the end of the last slot. -/
theorem regimeLaw_enterWait {s : State} (hlocked : s.timer.state = .locked) (h : RegimeLaw s) :
    RegimeLaw (s.withTimer { s.timer with state := .waitSync, slot := none, waitCount := 0 }) := by
  obtain ⟨⟨hengage, hquiesce, hcommit, hstop⟩, hschedule, ⟨-, -, hq, hpulse, -, -, hholdover⟩, -, hfollow⟩ := h
  have hrun : qualifierRuns s = true := by rw [qualifierRuns, hlocked]
  refine ⟨⟨hengage, hquiesce, hcommit, ?_⟩, hschedule, ⟨rfl, ?_, ?_, ?_, ?_, by simp, hholdover⟩, ?_, ?_⟩
  · rw [hlocked] at hstop
    exact iff_of_false (by simp) fun h => absurd (hstop.2 h) (by simp)
  · intro k hk
    cases hk
  · exact hq.imp_right fun h' => ⟨rfl, h'.2⟩
  · intro hp
    rw [hlocked] at hpulse
    exact absurd (hpulse hp).1 (by simp)
  · exact fun h => absurd rfl h
  · intro h'
    cases h'
  · exact fun _ => hfollow hrun

theorem RegimeLaw.waitCount_eq_zero {s : State} (h : RegimeLaw s) (hstate : s.timer.state ≠ .waitSync) :
    s.timer.waitCount = 0 := by
  obtain ⟨-, -, ⟨-, -, -, -, hwait, -, -⟩, -⟩ := h
  exact hwait hstate

theorem RegimeLaw.holdover_le {s : State} (h : RegimeLaw s) : s.timer.holdover ≤ 65535 := by
  obtain ⟨-, -, ⟨-, -, -, -, -, -, hholdover⟩, -⟩ := h
  exact hholdover

/-- A frame start after changes behind the regime and a new timer is made of changes. -/
theorem Quiet.changes_frameStart {s u : State} (h : Quiet s u) (hctl : u.ctl = s.ctl)
    (hready : RegimeLaw s → FrameReady u) (loss : Option (EventKind × Nat)) : Changes s (frameStart loss u) :=
  (h.trans (quiet_frameStart loss u)).changes_of_mode (by rw [frameStart_mode, hctl])
    (by rw [frameStart_returnMode, hctl]) fun hs => (hready hs).frameStart loss

theorem Changes.then_reevaluate {s t : State} (h : Changes s t) : Changes s (reevaluate t) :=
  h.trans (changes_reevaluate t)

theorem changes_endFrame (s : State) : Changes s (endFrame s) := by
  rw [endFrame]
  split
  · next hfree =>
    refine Changes.then_reevaluate (Quiet.changes_frameStart (Quiet.refl s) ?_ (fun h => ?_) none)
    · rfl
    refine .of_running h rfl rfl rfl rfl ?_ (.inl rfl) (.inr rfl) (h.waitCount_eq_zero ?_) h.holdover_le
    · rw [hfree]; rfl
    · rw [hfree]; decide
  · next hholdover =>
    refine Changes.then_reevaluate (Quiet.changes_frameStart ?_ ?_ (fun h => ?_) none)
    · exact quiet_withTimer _ _
    · rfl
    refine .of_running h rfl rfl rfl rfl ?_ (.inl rfl) (.inr rfl) (h.waitCount_eq_zero ?_) (satSucc16_le h.holdover_le)
    · rw [State.withTimer_timer, hholdover]; rfl
    · rw [hholdover]; decide
  · next hlocked => exact changes_withTimer (regimeLaw_enterWait hlocked)
  · exact .refl
  · exact .refl

theorem nextSlot_eq_some {b : Bank} {k j : SlotId} (h : nextSlot b k = some j) :
    k.val + 1 < b.count ∧ j.val = k.val + 1 := by
  rw [nextSlot] at h
  split at h
  · next hk =>
    cases h
    exact ⟨hk.1, rfl⟩
  · cases h

/-- R41. The next slot begins while a slot runs. -/
theorem regimeLaw_beginSlot {s : State} {k : SlotId} (hruns : s.timer.slot.isSome = true) (hk : k.val < s.active.count)
    (h : RegimeLaw s) : RegimeLaw (beginSlot k s) := by
  obtain ⟨hmode, hschedule, ⟨hslot, -, hrest⟩, htiming⟩ := h
  refine ⟨hmode, hschedule, ⟨?_, ?_, hrest⟩, htiming⟩
  · exact hslot ▸ hruns.symm
  · intro j hj
    cases hj
    exact ⟨hk, le_refl _⟩

theorem changes_endSlot (s : State) : Changes s (endSlot s) := by
  rw [endSlot]
  split
  · exact .refl
  · next k hk =>
    split
    · next j hj =>
      obtain ⟨hlt, hval⟩ := nextSlot_eq_some hj
      refine (changes_classifySlot s).trans ((quiet_beginSlot j _).changes_of_mode rfl rfl ?_)
      refine regimeLaw_beginSlot ?_ ?_
      · rw [classifySlot_timer, hk]
        rfl
      · rw [classifySlot_active, hval]
        exact hlt
    · exact (changes_classifySlot s).trans (changes_endFrame _)

theorem changes_slotEndIfDue (s : State) : Changes s (slotEndIfDue s) := by
  rw [slotEndIfDue]
  split
  · exact changes_endSlot s
  · exact .refl

/-! ### Following FSYNC -/

/-- The qualifier, the reference level and the level of the line may change while the qualifier runs. -/
theorem changes_withQualifier {s : State} {q : Qualifier} {level : Level}
    (h : q = .idle ∨ qualifierRuns s = true ∧ q = .qualifying 0 ∨ q = s.timer.qualifier) :
    Changes s (s.withTimer { s.timer with qualifier := q, reference := level }) := by
  refine changes_withTimer fun hs => ?_
  obtain ⟨hmode, hschedule, ⟨hslot, hplace, hq, hrest⟩, htiming⟩ := hs
  refine ⟨hmode, hschedule, ⟨hslot, hplace, ?_, hrest⟩, htiming⟩
  rcases h with h | ⟨hruns, h⟩ | h
  · exact .inl h
  · exact .inr ⟨hruns, 0, Nat.zero_le _, h⟩
  · exact hq.imp (fun h' => h.trans h') fun ⟨hruns, c, hc, h'⟩ => ⟨hruns, c, hc, h.trans h'⟩

theorem changes_judgeSample (s : State) : Changes s (judgeSample s) := by
  rw [judgeSample]
  split
  · next hruns =>
    split
    · split
      · exact .refl
      · split
        · exact changes_withQualifier (level := s.timer.reference) (.inr (.inl ⟨hruns, rfl⟩))
        · exact changes_withQualifier (.inr (.inr rfl))
    · split
      · exact (changes_withQualifier (level := s.timer.reference) (.inl rfl)).trans (Change.globals _ _).one
      · exact .refl
  · exact .refl

theorem changes_earlySync (s : State) : Changes s (earlySync s) := by
  have hcount := (Change.globals (fun g => { g with earlySyncs := satAdd g.earlySyncs 1 }) s).one
  rw [earlySync]
  split
  · exact hcount
  · refine (hcount.trans (changes_recordNow ..)).trans (Change.events _ _ ?_).one
    exact List.suffix_refl _

theorem qualificationDue_runs {s : State} (h : qualificationDue s = true) : qualifierRuns s = true := by
  rw [qualificationDue, Bool.and_eq_true] at h
  exact h.1

theorem changes_endWait {s : State} (hruns : qualifierRuns s = true) (level : Level) :
    Changes s (endWait (s.withTimer { s.timer with qualifier := .idle, reference := level })) := by
  rw [endWait]
  refine Quiet.changes_frameStart ?_ ?_ (fun h => ?_) none
  · exact quiet_withTimer _ _
  · rfl
  · exact .of_running h rfl rfl rfl rfl rfl (.inr ⟨hruns, nofun⟩) (.inl rfl) rfl (Nat.zero_le _)

theorem changes_regainSync {s : State} (hholdover : s.timer.state = .holdover) (level : Level) :
    Changes s (regainSync (s.withTimer { s.timer with qualifier := .idle, reference := level })) := by
  have hruns : qualifierRuns s = true := by rw [qualifierRuns, hholdover]
  rw [regainSync]
  refine Quiet.changes_frameStart ?_ ?_ (fun h => ?_) _
  · refine Quiet.trans ?_ (quiet_withTimer _ _)
    refine Quiet.trans ?_ (quiet_updGlobals _ _)
    exact Quiet.trans (quiet_withTimer _ _) (quiet_classifySlot _)
  · rw [State.withTimer_ctl, updGlobals_ctl, classifySlot_ctl, State.withTimer_ctl]
  · refine .of_running h ?_ ?_ ?_ ?_ rfl (.inr ⟨hruns, nofun⟩) (.inl ?_) ?_ (Nat.zero_le _)
    · rw [State.withTimer_ctl, updGlobals_ctl, classifySlot_ctl, State.withTimer_ctl]
    · rw [State.withTimer_settings, updGlobals_settings, classifySlot_settings, State.withTimer_settings]
    · rw [State.withTimer_active, updGlobals_active, classifySlot_active, State.withTimer_active]
    · rw [State.withTimer_staged, updGlobals_staged, classifySlot_staged, State.withTimer_staged]
    · rw [State.withTimer_timer, updGlobals_timer, classifySlot_timer, State.withTimer_timer]
    · rw [State.withTimer_timer, updGlobals_timer, classifySlot_timer, State.withTimer_timer]
      exact h.waitCount_eq_zero (by rw [hholdover]; decide)

/-- R48. A sync in the last slot cuts it. -/
theorem changes_cutSlot {s : State} (hlocked : s.timer.state = .locked) (level : Level) :
    Changes s (frameStart none
      (classifySlot (s.withTimer { s.timer with qualifier := .idle, reference := level }))) := by
  refine Quiet.changes_frameStart ?_ ?_ (fun h => ?_) none
  · exact Quiet.trans (quiet_withTimer _ _) (quiet_classifySlot _)
  · rw [classifySlot_ctl, State.withTimer_ctl]
  · refine .of_running h ?_ ?_ ?_ ?_ ?_ (.inl ?_) (.inl ?_) ?_ ?_
    · rw [classifySlot_ctl, State.withTimer_ctl]
    · rw [classifySlot_settings, State.withTimer_settings]
    · rw [classifySlot_active, State.withTimer_active]
    · rw [classifySlot_staged, State.withTimer_staged]
    · rw [classifySlot_timer, State.withTimer_timer, hlocked]; rfl
    · rw [classifySlot_timer, State.withTimer_timer]
    · rw [classifySlot_timer, State.withTimer_timer]
    · rw [classifySlot_timer, State.withTimer_timer]
      exact h.waitCount_eq_zero (by rw [hlocked]; decide)
    · rw [classifySlot_timer, State.withTimer_timer]
      exact h.holdover_le

theorem changes_qualify {s : State} (hruns : qualifierRuns s = true) : Changes s (qualify s) := by
  have hidle : Changes s (s.withTimer { s.timer with qualifier := .idle, reference := s.settings.edge.asserted }) :=
    changes_withQualifier (.inl rfl)
  rw [qualify]
  split
  · exact Changes.then_reevaluate (changes_endWait hruns _)
  · next hholdover => exact Changes.then_reevaluate (changes_regainSync hholdover _)
  · next hlocked =>
    split
    · exact hidle
    · split
      · exact hidle.trans (changes_earlySync _)
      · exact Changes.then_reevaluate (changes_cutSlot hlocked _)
  · exact hidle
  · exact hidle

theorem changes_qualifyIfDue (s : State) : Changes s (qualifyIfDue s) := by
  rw [qualifyIfDue]
  split
  · next h => exact changes_qualify (qualificationDue_runs h)
  · exact .refl

theorem syncTimeoutDue_iff (s : State) :
    syncTimeoutDue s = true ↔ s.timer.state = .waitSync ∧ s.settings.syncTimeout ≠ 0#16 ∧
      s.settings.syncTimeout.toNat ≤ s.timer.waitCount := by
  simp [syncTimeoutDue, and_assoc]

theorem changes_expireSync {s : State} (hwait : s.timer.state = .waitSync) : Changes s (expireSync s) := by
  have hruns : qualifierRuns s = true := by rw [qualifierRuns, hwait]
  rw [expireSync]
  refine Changes.then_reevaluate (Quiet.changes_frameStart ?_ ?_ (fun h => ?_) _)
  · exact Quiet.trans (quiet_withTimer _ _) (quiet_updGlobals _ _)
  · rfl
  · exact .of_running h rfl rfl rfl rfl rfl (.inr ⟨hruns, nofun⟩) (.inr rfl) rfl (by decide : 1 ≤ 65535)

theorem changes_expireSyncIfDue (s : State) : Changes s (expireSyncIfDue s) := by
  rw [expireSyncIfDue]
  split
  · next h => exact changes_expireSync ((syncTimeoutDue_iff s).1 h).1
  · exact .refl

theorem changes_frameEvent (s : State) : Changes s (frameEvent s) := by
  rw [frameEvent]
  split
  · next h => exact changes_qualify (qualificationDue_runs h)
  · split
    · exact changes_endSlot s
    · exact changes_expireSyncIfDue s

/-! ### Engagement and release -/

theorem stoppedMode_of_unengaged {c : Control} (h : c.mode = .pass ∨ c.mode = .engaging) : stoppedMode c = true := by
  rcases h with h | h <;> rw [stoppedMode, h]

/-- 7.1. Before an engagement completes the timer is STOPPED. -/
theorem RegimeLaw.stopped {s : State} (h : RegimeLaw s) (hmode : s.ctl.mode = .pass ∨ s.ctl.mode = .engaging) :
    s.timer.state = .stopped := by
  obtain ⟨⟨-, -, -, hstop⟩, -⟩ := h
  exact hstop.2 (stoppedMode_of_unengaged hmode)

/-- R46. A STOPPED or FREE timer's qualifier is IDLE. -/
theorem RegimeLaw.qualifier_idle {s : State} (h : RegimeLaw s) (hruns : qualifierRuns s = false) :
    s.timer.qualifier = .idle := by
  obtain ⟨-, -, ⟨-, -, hq, -⟩, -⟩ := h
  rcases hq with hq | ⟨hruns', -⟩
  · exact hq
  · rw [hruns] at hruns'
    cases hruns'

/-- R117. REGULATE with nothing pending. -/
abbrev Control.regulate (c : Control) : Control := { c with mode := .regulate, pendingOp := .none }

theorem modeLaw_regulate {s : State} (hmode : s.ctl.mode = .regulate) (hpending : s.ctl.pendingOp = .none)
    (hstate : s.timer.state ≠ .stopped) : ModeLaw s := by
  refine ⟨by simp [hmode, hpending], by simp [hmode, hpending], by simp [hpending], iff_of_false hstate ?_⟩
  rw [stoppedMode, hmode]
  exact Bool.false_ne_true

/-- R39. A FREE start from STOPPED is ready for its frame start. -/
theorem FrameReady.of_start {s : State} {c : Control} (h : RegimeLaw s)
    (hmode : s.ctl.mode = .pass ∨ s.ctl.mode = .engaging) (hsource : s.settings.timing = .source) :
    FrameReady ((s.withCtl c.regulate).withTimer { s.timer with state := .free }) := by
  have hstopped := h.stopped hmode
  have hidle := h.qualifier_idle (by rw [qualifierRuns, hstopped])
  have hwait := h.waitCount_eq_zero (by rw [hstopped]; decide)
  have hholdover := h.holdover_le
  obtain ⟨-, ⟨hactive, -⟩, -⟩ := h
  exact ⟨modeLaw_regulate rfl rfl nofun, ⟨hactive, nofun⟩, ⟨fun _ => hsource, nofun⟩, rfl, .inl hidle, hwait, hholdover⟩

/-- R39. A start under FOLLOW waits for a sync. -/
theorem regimeLaw_follow {s : State} {c : Control} (h : RegimeLaw s)
    (hmode : s.ctl.mode = .pass ∨ s.ctl.mode = .engaging) (hfollow : s.settings.timing = .follow) :
    RegimeLaw ((s.withCtl c.regulate).withTimer
      { s.timer with
        state := .waitSync, slot := none, down := 0, waitCount := 0, qualifier := .idle, reference := s.timer.line,
        sample := s.timer.line }) := by
  have hstopped := h.stopped hmode
  obtain ⟨-, ⟨hactive, -⟩, ⟨-, -, -, hpulse, -, -, hholdover⟩, -⟩ := h
  refine ⟨modeLaw_regulate rfl rfl nofun, ⟨hactive, nofun⟩, ⟨rfl, nofun, .inl rfl, fun hp => ?_, fun _ => rfl,
    Nat.zero_le _, hholdover⟩, nofun, fun _ => hfollow⟩
  have hfree := (hpulse hp).1
  rw [hstopped] at hfree
  cases hfree

theorem completeEngagement_eq (c : Control) (s : State) :
    completeEngagement (s.withCtl c) =
      recordControl .engaged (startTimer (s.withCtl c.regulate)).ctl.engaged (startTimer (s.withCtl c.regulate)) := rfl

theorem startTimer_of_source {s : State} (h : s.settings.timing = .source) :
    startTimer s = frameStart none (s.withTimer { s.timer with state := .free }) := by rw [startTimer, h]

theorem startTimer_of_follow {s : State} (h : s.settings.timing = .follow) :
    startTimer s = s.withTimer
      { s.timer with
        state := .waitSync, slot := none, down := 0, waitCount := 0, qualifier := .idle, reference := s.timer.line,
        sample := s.timer.line } := by rw [startTimer, h]

theorem queueLaw_regulate {s t : State} (hstore : t.store = s.store) (hmode : t.ctl.mode = .regulate)
    (hpass : s.store.pass = []) : QueueLaw t := by
  simp [QueueLaw, hmode, hstore, hpass]

/-- R117. An engagement completes where the pass queue is empty; `c` carries the count of releases. -/
theorem changes_completeEngagement {s : State} (c : Control) (hmode : s.ctl.mode = .pass ∨ s.ctl.mode = .engaging)
    (hpass : s.store.pass = []) : Changes s (completeEngagement (s.withCtl c)) := by
  rw [completeEngagement_eq]
  refine Relation.ReflTransGen.trans ?_ (changes_recordControl ..)
  cases htiming : s.settings.timing with
  | source =>
    rw [startTimer_of_source (s := s.withCtl c.regulate) htiming]
    refine Quiet.changes ?_ (fun h => ?_) fun _ => queueLaw_regulate rfl ?_ hpass
    · refine Quiet.trans ?_ (quiet_frameStart none _)
      exact .of_eq fun _ => rfl
    · exact (FrameReady.of_start h hmode htiming).frameStart none
    · exact frameStart_mode none ((s.withCtl c.regulate).withTimer { s.timer with state := .free })
  | follow =>
    rw [startTimer_of_follow (s := s.withCtl c.regulate) htiming]
    refine Quiet.changes (.of_eq fun _ => rfl) (fun h => ?_) fun _ => queueLaw_regulate rfl rfl hpass
    exact regimeLaw_follow h hmode htiming

theorem engagementDue_iff (s : State) :
    engagementDue s = true ↔ s.ctl.mode = .engaging ∧ s.store.pass = [] := by
  simp [engagementDue]

theorem changes_engageIfDue (s : State) : Changes s (engageIfDue s) := by
  rw [engageIfDue]
  split
  · next h =>
    obtain ⟨hmode, hpass⟩ := (engagementDue_iff s).1 h
    exact changes_completeEngagement s.ctl (.inr hmode) hpass
  · exact .refl

theorem adapts_charge (length : Nat) (e : StreamEntry) : e.Adapts (e.charge length) := by
  rw [StreamEntry.charge]
  split
  · refine ⟨rfl, rfl, id, fun ⟨hcap, hzero⟩ => ⟨(Nat.sub_le _ _).trans hcap, fun h => ?_⟩⟩
    rw [hzero h, Nat.zero_sub]
  · exact .refl e

theorem latencyOk_release (charged : Bool) (length : Nat) {g : StreamStats} (h : g.LatencyOk) :
    (g.release charged length).LatencyOk := by
  rw [StreamStats.release]
  split <;> exact h

theorem changes_sendHead {k : StreamId} {d : Descriptor} {rest : List Descriptor} {t : Tag} {s : State}
    (hq : queueOf s k = d :: rest) (ht : s.table.get t = .free) (robin : Bool) :
    Changes s (sendHead k d rest robin t s) := by
  rw [sendHead]
  refine Relation.ReflTransGen.trans ?_ (Change.engine _ _).one
  refine Relation.ReflTransGen.trans ?_ (Change.group k _ _ fun _ h => latencyOk_release _ _ h).one
  refine Relation.ReflTransGen.trans ?_ (changes_updStream (adapts_charge _ _))
  exact (Change.send k d rest t s hq ht).one.trans (Change.dp _ _).one

theorem changes_releaseStream {t : Tag} {s : State} (ht : s.table.get t = .free) (k : StreamId) (robin : Bool) :
    Changes s (releaseStream k robin t s) := by
  cases hq : queueOf s k with
  | nil =>
    rw [releaseStream, hq]
  | cons d rest =>
    rw [releaseStream_cons hq]
    exact Changes.then_reevaluate
      (((changes_sendHead hq ht robin).trans (changes_closeIfDrained k _)).trans (changes_quiesceIfDue _))

theorem changes_countPass (s : State) : Changes s (s.withCtl s.ctl.countPass) := by
  rw [Control.countPass]
  split
  · exact changes_withCtl id id
  · exact .refl

theorem changes_sendPass {d : Descriptor} {rest : List Descriptor} {t : Tag} {s : State}
    (hq : s.store.pass = d :: rest) (ht : s.table.get t = .free) : Changes s (sendPass d rest t s) :=
  (((Change.sendPass d rest t s hq ht).one.trans (Change.dp _ _).one).trans (Change.globals _ _).one).trans
    (changes_countPass _)

theorem changes_releasePass {t : Tag} {s : State} (ht : s.table.get t = .free) : Changes s (releasePass t s) := by
  cases hq : s.store.pass with
  | nil =>
    rw [releasePass, hq]
  | cons d rest =>
    rw [releasePass_cons hq]
    exact Changes.then_reevaluate
      (((changes_sendPass hq ht).trans (changes_engageIfDue _)).trans (changes_quiesceIfDue _))

theorem changes_releaseIfDue (s : State) : Changes s (releaseIfDue s) := by
  have hfree {w : Winner} {t : Tag} (h : releaseDue s = some (w, t)) : s.table.get t = .free :=
    (freeTag_some (releaseDue_some.1 h).2.2).1
  obtain ⟨-, h⟩ | ⟨t, hdue, h⟩ | ⟨k, t, hdue, h⟩ | ⟨k, t, hdue, h⟩ := releaseIfDue_cases s
  · rw [h]
  · exact h ▸ changes_releasePass (hfree hdue)
  · exact h ▸ changes_releaseStream (hfree hdue) k false
  · exact h ▸ changes_releaseStream (hfree hdue) k true

/-! ### The tick -/

/-- A qualification is due by the timer and by Q alone. -/
theorem qualificationDue_of_eq {s t : State} (htimer : t.timer = s.timer) (hsettings : t.settings = s.settings) :
    qualificationDue t = qualificationDue s := by
  rw [qualificationDue, qualificationDue, qualifierRuns, qualifierRuns, htimer, hsettings]

theorem qualificationDue_of_idle {s : State} (h : s.timer.qualifier = .idle) : qualificationDue s = false := by
  rw [qualificationDue, h, Bool.and_false]

theorem qualificationDue_of_not_runs {s : State} (h : qualifierRuns s = false) : qualificationDue s = false := by
  rw [qualificationDue, h, Bool.false_and]

/-- With the qualifier as it was, nothing becomes due that was not due while the qualifier ran. -/
theorem qualificationDue_of_qualifier {s t : State} (hqualifier : t.timer.qualifier = s.timer.qualifier)
    (hsettings : t.settings = s.settings) (hruns : qualifierRuns t = true → qualifierRuns s = true)
    (h : qualificationDue s = false) : qualificationDue t = false := by
  cases ht : qualifierRuns t with
  | false => exact qualificationDue_of_not_runs ht
  | true =>
    rw [qualificationDue, ht, hqualifier, hsettings]
    rwa [qualificationDue, hruns ht] at h

theorem frameStart_qualifier (loss : Option (EventKind × Nat)) (s : State) :
    (frameStart loss s).timer.qualifier = s.timer.qualifier := by
  rw [frameStart_timer]
  rfl

theorem frameStart_state (loss : Option (EventKind × Nat)) (s : State) :
    (frameStart loss s).timer.state = s.timer.state := by
  rw [frameStart_timer]
  rfl

theorem qualify_qualifier (s : State) : (qualify s).timer.qualifier = .idle := by
  rw [qualify]
  split
  · rw [reevaluate_timer, endWait, frameStart_qualifier, State.withTimer_timer, State.withTimer_timer]
  · rw [reevaluate_timer, regainSync, frameStart_qualifier, State.withTimer_timer, updGlobals_timer,
      classifySlot_timer, State.withTimer_timer]
  · split
    · rfl
    · split
      · rw [earlySync_timer, State.withTimer_timer]
      · rw [reevaluate_timer, frameStart_qualifier, classifySlot_timer, State.withTimer_timer]
  · rfl
  · rfl

/-- R46. Once taken, a qualification is not due again. -/
theorem qualificationDue_qualifyIfDue (s : State) : qualificationDue (qualifyIfDue s) = false := by
  rw [qualifyIfDue]
  split
  · exact qualificationDue_of_idle (qualify_qualifier s)
  · next h => exact Bool.eq_false_iff.2 h

theorem endFrame_keeps_qualifier (s : State) :
    (endFrame s).timer.qualifier = s.timer.qualifier ∧ (qualifierRuns (endFrame s) = true → qualifierRuns s = true) := by
  rw [endFrame]
  split
  · next h =>
    rw [qualifierRuns, reevaluate_timer, frameStart_qualifier, frameStart_state, h]
    exact ⟨rfl, nofun⟩
  · next h =>
    rw [qualifierRuns, reevaluate_timer, frameStart_qualifier, frameStart_state, qualifierRuns, h]
    exact ⟨rfl, fun _ => rfl⟩
  · next h =>
    rw [qualifierRuns, qualifierRuns, h]
    exact ⟨rfl, fun _ => rfl⟩
  · exact ⟨rfl, id⟩
  · exact ⟨rfl, id⟩

theorem endSlot_keeps_qualifier (s : State) :
    (endSlot s).timer.qualifier = s.timer.qualifier ∧ (qualifierRuns (endSlot s) = true → qualifierRuns s = true) := by
  have hclassify : qualifierRuns (classifySlot s) = qualifierRuns s := by
    rw [qualifierRuns, qualifierRuns, classifySlot_timer]
  rw [endSlot]
  split
  · exact ⟨rfl, id⟩
  · split
    · refine ⟨?_, fun h => hclassify ▸ h⟩
      rw [beginSlot, State.withEngine_timer, State.withTimer_timer, classifySlot_timer]
    · obtain ⟨hqualifier, hruns⟩ := endFrame_keeps_qualifier (classifySlot s)
      exact ⟨by rw [hqualifier, classifySlot_timer], fun h => hclassify ▸ hruns h⟩

theorem qualificationDue_slotEndIfDue {s : State} (h : qualificationDue s = false) :
    qualificationDue (slotEndIfDue s) = false := by
  rw [slotEndIfDue]
  split
  · obtain ⟨hqualifier, hruns⟩ := endSlot_keeps_qualifier s
    exact qualificationDue_of_qualifier hqualifier (endSlot_settings s) hruns h
  · exact h

theorem qualificationDue_expireSyncIfDue {s : State} (h : qualificationDue s = false) :
    qualificationDue (expireSyncIfDue s) = false := by
  rw [expireSyncIfDue]
  split
  · next hdue =>
    obtain ⟨hwait, -, -⟩ := (syncTimeoutDue_iff s).1 hdue
    refine qualificationDue_of_qualifier ?_ (expireSync_settings s) (fun _ => by rw [qualifierRuns, hwait]) h
    rw [expireSync, reevaluate_timer, frameStart_qualifier, updGlobals_timer, State.withTimer_timer]
  · exact h

theorem qualificationDue_completeEngagement (s : State) : qualificationDue (completeEngagement s) = false := by
  rw [completeEngagement]
  have h : qualificationDue (startTimer (s.withCtl s.ctl.regulate)) = false := by
    cases htiming : s.settings.timing with
    | source =>
      rw [startTimer_of_source (s := s.withCtl s.ctl.regulate) htiming]
      refine qualificationDue_of_not_runs ?_
      rw [qualifierRuns, frameStart_state, State.withTimer_timer]
    | follow =>
      rw [startTimer_of_follow (s := s.withCtl s.ctl.regulate) htiming]
      exact qualificationDue_of_idle rfl
  exact h

theorem qualificationDue_engageIfDue {s : State} (h : qualificationDue s = false) :
    qualificationDue (engageIfDue s) = false := by
  rw [engageIfDue]
  split
  · exact qualificationDue_completeEngagement s
  · exact h

theorem qualificationDue_releasePass {s : State} (t : Tag) (h : qualificationDue s = false) :
    qualificationDue (releasePass t s) = false := by
  cases hq : s.store.pass with
  | nil => rwa [releasePass, hq]
  | cons d rest =>
    rw [releasePass_cons hq, qualificationDue_of_eq (s := engageIfDue (sendPass d rest t s))]
    · exact qualificationDue_engageIfDue h
    · rw [reevaluate_timer, quiesceIfDue_timer]
    · rw [reevaluate_settings, quiesceIfDue_settings]

theorem qualificationDue_releaseIfDue {s : State} (h : qualificationDue s = false) :
    qualificationDue (releaseIfDue s) = false := by
  have hstream (k : StreamId) (robin : Bool) (t : Tag) : qualificationDue (releaseStream k robin t s) = false := by
    rwa [qualificationDue_of_eq (releaseStream_timer ..) (releaseStream_settings ..)]
  obtain ⟨-, hr⟩ | ⟨t, -, hr⟩ | ⟨k, t, -, hr⟩ | ⟨k, t, -, hr⟩ := releaseIfDue_cases s <;> rw [hr]
  · exact h
  · exact qualificationDue_releasePass t h
  · exact hstream k false t
  · exact hstream k true t

/-- R46. After what a TICK takes first, no qualification is due. -/
theorem qualificationDue_settle (s : State) : qualificationDue (settle s) = false := by
  refine qualificationDue_releaseIfDue ?_
  rw [qualificationDue_of_eq (expireAll_timer _) (expireAll_settings _),
    qualificationDue_of_eq (crossAll_timer _) (crossAll_settings _)]
  exact qualificationDue_expireSyncIfDue
    (qualificationDue_slotEndIfDue (qualificationDue_qualifyIfDue _))

theorem changes_settle (s : State) : Changes s (settle s) :=
  ((((((changes_judgeSample s).trans (changes_qualifyIfDue _)).trans (changes_slotEndIfDue _)).trans
    (changes_expireSyncIfDue _)).trans (changes_crossAll _)).trans (changes_expireAll _)).trans (changes_releaseIfDue _)

/-- R41, R46, R50. A tick that finds no qualification due keeps the regime's laws. -/
theorem regimeLaw_advance {s : State} (hdue : qualificationDue s = false) (level : Level) (h : RegimeLaw s) :
    RegimeLaw (advance level s) := by
  obtain ⟨hmode, hschedule, ⟨hslot, hplace, hq, -, hwait, hcount, hholdover⟩, htiming⟩ := h
  refine ⟨hmode, hschedule, ⟨hslot, fun k hk => ?_, ?_, nofun, fun hstate => ?_, ?_, hholdover⟩, htiming⟩
  · obtain ⟨hlt, hdown⟩ := hplace k hk
    refine ⟨hlt, ?_⟩
    simp only [advance, State.withTimer_timer, Timer.advance, State.withTimer_active]
    split <;> omega
  · rcases hq with hq | ⟨hruns, c, hc, hq⟩
    · left
      simp only [advance, State.withTimer_timer, Timer.advance, hq, Qualifier.hold]
    · right
      have hlt : c < s.settings.q.toNat := by simpa [qualificationDue, hruns, hq] using hdue
      refine ⟨hruns, ?_⟩
      simp only [advance, State.withTimer_timer, Timer.advance, hq, Qualifier.hold, State.withTimer_settings]
      split
      · exact ⟨c + 1, hlt, rfl⟩
      · exact ⟨c, hc, rfl⟩
  · simp only [advance, State.withTimer_timer, Timer.advance] at hstate ⊢
    rw [if_neg hstate]
    exact hwait hstate
  · simp only [advance, State.withTimer_timer, Timer.advance]
    split
    · exact satSucc16_le hcount
    · exact hcount

theorem changes_tick (level : Level) (s : State) : Changes s (advance level (settle s)) :=
  (changes_settle s).trans (changes_withTimer (regimeLaw_advance (qualificationDue_settle s) level))

/-! ### The commands of the Schedule Store and the settings -/

theorem changes_editStaged (b : Bank) (s : State) : Changes s (editStaged b s).1 := by
  by_cases hlock : s.ctl.pendingOp = .commit
  · rw [editStaged_of_locked hlock]
    exact .refl
  · rw [editStaged_of_not_locked hlock]
    refine (Change.regime { s.regime with staged := b } s (fun h => ?_) id).one
    obtain ⟨hmode, ⟨hactive, -⟩, htimer, htiming⟩ := h
    exact ⟨hmode, ⟨hactive, fun h => absurd h hlock⟩, htimer, htiming⟩

theorem changes_cmdWriteSlots (args : List Byte) (s : State) : Changes s (cmdWriteSlots args s).1 := by
  unfold cmdWriteSlots
  split
  · split
    · split
      · exact changes_editStaged _ s
      · exact .refl
    · exact .refl
  · exact .refl

theorem changes_cmdSetSlotCount (args : List Byte) (s : State) : Changes s (cmdSetSlotCount args s).1 := by
  unfold cmdSetSlotCount
  split
  · split
    · exact changes_editStaged _ s
    · exact .refl
  · exact .refl

theorem changes_cmdRevertStaged (args : List Byte) (s : State) : Changes s (cmdRevertStaged args s).1 := by
  unfold cmdRevertStaged
  split
  · exact changes_editStaged _ s
  · exact .refl

/-- R29, R30. A COMMIT with a STOPPED timer puts the valid staged bank in force. -/
theorem regimeLaw_commitNow {s : State} (hpending : s.ctl.pendingOp = .none) (hvalid : s.staged.fault = none)
    (hstopped : s.timer.state = .stopped) (h : RegimeLaw s) :
    RegimeLaw ((s.withActive s.staged).withCtl { s.ctl with pendingOp := .none }) := by
  have hctl : { s.ctl with pendingOp := .none } = s.ctl := by rw [← hpending]
  obtain ⟨hmode, -, ⟨hslot, -, hrest⟩, htiming⟩ := h
  rw [hctl]
  refine ⟨hmode, ⟨hvalid, fun _ => hvalid⟩, ⟨hslot, fun k hk => ?_, hrest⟩, htiming⟩
  rw [hstopped] at hslot
  simp only [State.withCtl_timer, State.withActive_timer] at hk
  rw [hk] at hslot
  cases hslot

/-- R29. A COMMIT taken while the timer runs is pending. -/
theorem regimeLaw_commitPending {s : State} (hpending : s.ctl.pendingOp = .none) (hvalid : s.staged.fault = none)
    (hstate : s.timer.state ≠ .stopped) (h : RegimeLaw s) :
    RegimeLaw (s.withCtl { s.ctl with pendingOp := .commit }) := by
  obtain ⟨⟨hengage, hquiesce, -, hstop⟩, ⟨hactive, -⟩, htimer, htiming⟩ := h
  have hregulated : s.ctl.mode = .regulate ∨ (s.ctl.mode = .quiesced ∧ s.ctl.returnMode = .regulate) := by
    rw [hpending] at hengage hquiesce
    have hrunning := mt hstop.2 hstate
    cases hm : s.ctl.mode <;> cases hr : s.ctl.returnMode <;> simp_all [stoppedMode]
  refine ⟨⟨?_, ?_, fun _ => hregulated, hstop⟩, ⟨hactive, fun _ => hvalid⟩, htimer, htiming⟩
  · rw [hpending] at hengage
    exact iff_of_false nofun fun h => absurd (hengage.2 h) nofun
  · rw [hpending] at hquiesce
    exact iff_of_false nofun fun h => absurd (hquiesce.2 h) nofun

theorem changes_cmdCommit (args : List Byte) (s : State) : Changes s (cmdCommit args s).1 := by
  unfold cmdCommit
  split
  · split
    · exact .refl
    · next hpending =>
      rw [not_not] at hpending
      split
      · exact .refl
      · next hvalid =>
        split
        · next hstopped =>
          refine Relation.ReflTransGen.trans ?_ (changes_recordControl .commitDone s.staged.count _)
          exact (Change.regime { s.regime with ctl := { s.ctl with pendingOp := .none }, active := s.staged } s
            (regimeLaw_commitNow hpending hvalid hstopped) id).one
        · next hstate => exact changes_withCtl (regimeLaw_commitPending hpending hvalid hstate) id
  · exact .refl

/-- R167. A setting that is not selected stays. -/
theorem parseSettingsWrite_unselected {c : Settings} {args : List Byte} {w : SettingsWrite}
    (h : parseSettingsWrite c args = some w) :
    (w.sel.getLsbD 1 = false → w.apply.timing = c.timing) ∧ (w.sel.getLsbD 4 = false → w.apply.q = c.q) := by
  unfold parseSettingsWrite at h
  split at h
  · simp only [Option.ite_none_right_eq_some, Option.some.injEq] at h
    obtain ⟨-, rfl⟩ := h
    exact ⟨fun hsel => by rw [pick, hsel]; rfl, fun hsel => by rw [pick, hsel]; rfl⟩
  · cases h

/-- R54. A WRITE_SETTINGS that its checks let pass leaves the timing source and Q to a STOPPED timer. -/
theorem regimeLaw_writeSettings {s : State} {w : SettingsWrite}
    (hkeep : s.timer.state ≠ .stopped → w.apply.timing = s.settings.timing ∧ w.apply.q = s.settings.q)
    (h : RegimeLaw s) : RegimeLaw (writeSettings w s) := by
  obtain ⟨hmode, hschedule, ⟨hslot, hplace, hq, hpulse, hrest⟩, hfree, hfollow⟩ := h
  refine ⟨hmode, hschedule, ⟨hslot, hplace, ?_, fun hp => ?_, hrest⟩, fun hstate => ?_, fun hruns => ?_⟩
  · refine hq.imp_right fun ⟨hruns, c, hc, hqual⟩ => ⟨hruns, c, ?_, hqual⟩
    have hstate : s.timer.state ≠ .stopped := by
      intro h
      rw [qualifierRuns, h] at hruns
      cases hruns
    exact (congrArg BitVec.toNat (hkeep hstate).2).symm ▸ hc
  · obtain ⟨hp, hout⟩ := Bool.and_eq_true_iff.1 hp
    exact ⟨(hpulse hp).1, hout⟩
  · have hstate' : s.timer.state = .free := hstate
    exact (hkeep (by rw [hstate']; decide)).1.trans (hfree hstate')
  · have hruns' : qualifierRuns s = true := hruns
    refine (hkeep fun h => ?_).1.trans (hfollow hruns')
    rw [qualifierRuns, h] at hruns'
    cases hruns'

theorem changes_ite {c : Prop} [Decidable c] {s t : State} (h : Changes s t) : Changes s (if c then t else s) := by
  split
  · exact h
  · exact .refl

theorem changes_settingsEvents (w : SettingsWrite) (s : State) : Changes s (settingsEvents w s) :=
  ((changes_ite (changes_expireSyncIfDue s)).trans (changes_ite (changes_expireAll _))).trans
    (changes_ite (changes_reevaluate _))

theorem changes_cmdWriteSettings (args : List Byte) (s : State) : Changes s (cmdWriteSettings args s).1 := by
  unfold cmdWriteSettings
  split
  · exact .refl
  · next w hparse =>
    split
    · exact .refl
    · next hallowed =>
      refine Relation.ReflTransGen.trans ?_ (changes_settingsEvents w _)
      refine (Quiet.of_eq fun _ => rfl : Quiet s (writeSettings w s)).changes_of_mode rfl rfl
        (regimeLaw_writeSettings fun hstate => ?_)
      obtain ⟨htiming, hq⟩ := parseSettingsWrite_unselected hparse
      have hneeds : w.needsStopped = false := by simpa [hstate] using hallowed
      simp only [SettingsWrite.needsStopped, Bool.or_eq_false_iff] at hneeds
      obtain ⟨⟨⟨-, h1⟩, -⟩, h4⟩ := hneeds
      exact ⟨htiming h1, hq h4⟩

/-! ### The commands of the Stream Table -/

/-- R3. A field that is not selected stays, and no write touches the state or the credit. -/
theorem parseStreamWrite_unselected {t : Table numStreams StreamEntry} {args : List Byte} {w : StreamWrite}
    (h : parseStreamWrite t args = some w) :
    w.entry.state = (t.get w.stream).state ∧ w.entry.credit = (t.get w.stream).credit ∧
      (w.sel.getLsbD 4 = false → w.entry.reload = (t.get w.stream).reload) ∧
      (w.sel.getLsbD 5 = false → w.entry.carry = (t.get w.stream).carry) ∧
      (w.sel.getLsbD 9 = false → w.entry.queueLimit = (t.get w.stream).queueLimit) ∧
      (w.sel.getLsbD 10 = false → w.entry.reserve = (t.get w.stream).reserve) := by
  unfold parseStreamWrite at h
  split at h
  · split at h
    · cases h
    · simp only [Option.ite_none_right_eq_some, Option.some.injEq] at h
      obtain ⟨-, rfl⟩ := h
      refine ⟨rfl, rfl, fun hsel => ?_, fun hsel => ?_, fun hsel => ?_, fun hsel => ?_⟩ <;> rw [pick, hsel] <;> rfl
  · cases h

theorem clamped_fields (w : StreamWrite) :
    w.clamped.state = w.entry.state ∧ w.clamped.queueLimit = w.entry.queueLimit ∧
      w.clamped.reserve = w.entry.reserve ∧ w.clamped.cap = w.entry.cap := by
  rw [StreamWrite.clamped]
  split <;> exact ⟨rfl, rfl, rfl, rfl⟩

/-- R16. The write keeps the credit within the cap. -/
theorem creditOk_clamped {e : StreamEntry} {w : StreamWrite} (hstate : w.entry.state = e.state)
    (hcredit : w.entry.credit = e.credit) (hreload : w.sel.getLsbD 4 = false → w.entry.reload = e.reload)
    (hcarry : w.sel.getLsbD 5 = false → w.entry.carry = e.carry) (h : e.CreditOk) : w.clamped.CreditOk := by
  obtain ⟨hcap, hzero⟩ := h
  rw [StreamWrite.clamped]
  split
  · refine ⟨Nat.min_le_right .., fun hd => ?_⟩
    have := hzero (hstate ▸ hd)
    simp only [hcredit, this, Nat.zero_min]
  · next hsel =>
    simp only [Bool.or_eq_true, not_or, Bool.not_eq_true] at hsel
    refine ⟨?_, fun hd => hcredit.trans (hzero (hstate ▸ hd))⟩
    rw [hcredit, StreamEntry.cap, hreload hsel.1, hcarry hsel.2]
    exact hcap

/-- R5, R69. The sums over the reserves read the reserves alone. -/
theorem get_reserve_of_eq {t : Table numStreams StreamEntry} {k : StreamId} {e e' : StreamEntry}
    (h : e.reserve = e'.reserve) (j : StreamId) : ((t.set k e).get j).reserve = ((t.set k e').get j).reserve := by
  rw [Table.get_set, Table.get_set]
  split
  · exact h
  · rfl

theorem reserveSum_of_eq {t : Table numStreams StreamEntry} {k : StreamId} {e e' : StreamEntry}
    (h : e.reserve = e'.reserve) : reserveSum (t.set k e) = reserveSum (t.set k e') := by
  simp only [reserveSum, get_reserve_of_eq h]

theorem reserveShortfall_of_eq {s : State} {k : StreamId} {e e' : StreamEntry} (h : e.reserve = e'.reserve) :
    reserveShortfall (s.withStreams (s.streams.set k e)) = reserveShortfall (s.withStreams (s.streams.set k e')) := by
  simp only [reserveShortfall, State.withStreams_streams, get_reserve_of_eq h]
  rfl

theorem changes_writeFields {s : State} {args : List Byte} {w : StreamWrite}
    (hparse : parseStreamWrite s.streams args = some w) (hallowed : streamWriteRefused s w = false) :
    Changes s (writeFields w s) := by
  obtain ⟨hstate, hcredit, hreload, hcarry, hlimit, hreserve⟩ := parseStreamWrite_unselected hparse
  obtain ⟨hstate', hlimit', hreserve', -⟩ := clamped_fields w
  simp only [streamWriteRefused, Bool.or_eq_false_iff, Bool.and_eq_false_iff, decide_eq_false_iff_not,
    not_lt] at hallowed
  obtain ⟨⟨-, hcount⟩, hsums⟩ := hallowed
  have hwrite : Changes s (s.withStreams (s.streams.set w.stream w.clamped)) := by
    refine (Change.write w.stream w.clamped s (hstate'.trans hstate)
      (creditOk_clamped hstate hcredit hreload hcarry) ?_ ?_).one
    · rw [hlimit']
      exact hcount.imp hlimit id
    · rw [hreserve', reserveSum_of_eq hreserve', reserveShortfall_of_eq hreserve']
      exact hsums.imp hreserve id
  rw [writeFields, crossWritten]
  split
  · exact hwrite.trans (changes_iterate (changes_crossIn _) _ _)
  · exact hwrite

theorem changes_cmdWriteStream (args : List Byte) (s : State) : Changes s (cmdWriteStream args s).1 := by
  unfold cmdWriteStream
  split
  · exact .refl
  · next w hparse =>
    split
    · exact .refl
    · next hallowed => exact Changes.then_reevaluate (changes_writeFields hparse (Bool.eq_false_iff.2 hallowed))

theorem changes_closeRequest (k : StreamId) (s : State) : Changes s (closeRequest k s) := by
  rw [closeRequest]
  split
  · next h => exact changes_closeStream (List.length_eq_zero_iff.1 h.1) h.2 0
  · exact changes_updStream (f := fun e => { e with state := .draining }) ⟨rfl, rfl, nofun, fun h => ⟨h.1, nofun⟩⟩

/-- R8. A transition that enables or moves a stream leads to ACTIVE or PAUSED. -/
theorem transition_target {e : StreamEntry} {target : StreamState}
    (h : transition e target = .enable ∨ transition e target = .move) : target ≠ .disabled := by
  rintro rfl
  unfold transition at h
  cases hs : e.state <;> simp [hs] at h

theorem changes_changeStream {k : StreamId} {target : StreamState} {x : Transition} {s : State}
    (hx : transition (s.streams.get k) target = x) : Changes s (changeStream k target x s) := by
  cases x with
  | keep => exact .refl
  | refused st => exact .refl
  | close => exact changes_closeRequest k s
  | enable =>
    have htarget := transition_target (.inl hx)
    refine changes_updStream (f := fun e => { e with state := target, credit := e.reload.toNat })
      ⟨rfl, rfl, fun h => absurd h htarget, fun _ => ⟨?_, fun h => absurd h htarget⟩⟩
    simp only [StreamEntry.cap]
    split <;> omega
  | move =>
    have htarget := transition_target (.inr hx)
    exact changes_updStream (f := fun e => { e with state := target })
      ⟨rfl, rfl, fun h => absurd h htarget, fun h => ⟨h.1, fun h => absurd h htarget⟩⟩

theorem changes_cmdSetStreamState (args : List Byte) (s : State) : Changes s (cmdSetStreamState args s).1 := by
  unfold cmdSetStreamState
  split
  · split
    · split
      · exact .refl
      · next k target _ _ _ _ =>
        exact Changes.then_reevaluate
          ((changes_changeStream (k := k) (target := target) rfl).trans (changes_quiesceIfDue _))
    · exact .refl
  · exact .refl

theorem changes_refuseAll (k : StreamId) (s : State) :
    Changes s (refuseAll .flushed (some k) (queueOf s k) (setQueue k [] s)) := by
  rw [refuseAll_eq]
  have hanswer : Changes s (answerRefused .flushed k (queueOf s k) (setQueue k [] s)) :=
    (Change.flush k .flushed s).one.trans (Change.group k
      (fun g => { g with refusedRequests := satAdd g.refusedRequests (queueOf s k).length }) _ fun _ h => h).one
  refine hanswer.trans ?_
  cases queueOf s k with
  | nil => exact .refl
  | cons d rest => exact changes_recordRefused d.initiator d.transaction .flushed (some k) _

theorem changes_flush (k : StreamId) (s : State) : Changes s (flush k s) :=
  Changes.then_reevaluate
    (((changes_refuseAll k s).trans (changes_closeIfDrained k _)).trans (changes_quiesceIfDue _))

theorem changes_cmdFlushStream (args : List Byte) (s : State) : Changes s (cmdFlushStream args s).1 := by
  unfold cmdFlushStream
  split
  · split
    · exact changes_flush _ s
    · exact .refl
  · exact .refl

/-! ### The mode commands -/

/-- R116. An ENGAGE that waits for the pass queue. -/
theorem regimeLaw_engaging {s : State} (hmode : s.ctl.mode = .pass) (h : RegimeLaw s) :
    RegimeLaw (s.withCtl { s.ctl with mode := .engaging, engaged := 0, pendingOp := .engage }) := by
  have hstopped := h.stopped (.inl hmode)
  obtain ⟨-, ⟨hactive, -⟩, htimer, htiming⟩ := h
  exact ⟨⟨iff_of_true rfl rfl, iff_of_false nofun nofun, nofun, iff_of_true hstopped rfl⟩, ⟨hactive, nofun⟩, htimer,
    htiming⟩

theorem changes_engage {s : State} (hmode : s.ctl.mode = .pass) : Changes s (engage s).1 := by
  rw [engage]
  split
  · next hdue =>
    obtain ⟨-, hpass⟩ := (engagementDue_iff _).1 hdue
    exact Changes.then_reevaluate (changes_completeEngagement _ (.inl hmode) hpass)
  · refine Changes.then_reevaluate (changes_withCtl (regimeLaw_engaging hmode) fun _ => ⟨?_, ?_⟩) <;> simp

theorem changes_cmdEngage (args : List Byte) (s : State) : Changes s (cmdEngage args s).1 := by
  unfold cmdEngage
  split
  · split
    · exact .refl
    · split
      · next hmode => exact changes_engage hmode
      · exact .refl
  · exact .refl

theorem quiet_leaveRegulation (s : State) : Quiet s (leaveRegulation s) := by
  rw [leaveRegulation]
  split
  · exact quiet_recordControl _ _ s
  · have hstop : Quiet s (stopTimer s) := (quiet_withTimer s.timer.stop s).trans (quiet_withEngine _ _)
    exact (hstop.trans (quiet_commitAtFrame _)).trans (quiet_recordControl _ _ _)

/-- R118, R120. The regime in which a DISENGAGE leaves the block: PASS, with nothing pending. -/
def disengagedRegime (s : State) : Regime :=
  { (leaveRegulation s).regime with ctl := { (leaveRegulation s).ctl with mode := .pass, pendingOp := .none } }

theorem regimeLaw_pass {t : State} (hctl : t.ctl.mode = .pass ∧ t.ctl.pendingOp = .none) (hactive : t.active.fault = none)
    (hstate : t.timer.state = .stopped) (htimer : TimerLaw t) : RegimeLaw t := by
  obtain ⟨hmode, hpending⟩ := hctl
  refine ⟨⟨?_, ?_, ?_, ?_⟩, ⟨hactive, ?_⟩, htimer, ?_, ?_⟩
  · simp [hmode, hpending]
  · simp [hmode, hpending]
  · simp [hpending]
  · simp [hstate, stoppedMode, hmode]
  · simp [hpending]
  · simp [hstate]
  · simp [qualifierRuns, hstate]

/-- R40. A stopped timer agrees with every bank. -/
theorem timerLaw_of_stop {s t : State} (h : t.timer = s.timer.stop) : TimerLaw t := by
  simp [TimerLaw, h, Timer.stop, TimerState.runsSlot]

theorem regimeLaw_disengaged {s : State} (hmode : s.ctl.mode = .engaging ∨ s.ctl.mode = .regulate) (h : RegimeLaw s) :
    RegimeLaw (s.withRegime (disengagedRegime s)) := by
  rcases hmode with hmode | hmode
  · have hstopped := h.stopped (.inr hmode)
    obtain ⟨-, ⟨hactive, -⟩, htimer, -⟩ := h
    have hleave : disengagedRegime s = { s.regime with ctl := { s.ctl with mode := .pass, pendingOp := .none } } := by
      rw [disengagedRegime, leaveRegulation, if_pos hmode]
      rfl
    rw [hleave]
    exact regimeLaw_pass ⟨rfl, rfl⟩ hactive hstopped htimer
  · have hne : ¬ s.ctl.mode = .engaging := by simp [hmode]
    obtain ⟨-, ⟨hactive, hstaged⟩, -, -⟩ := h
    have htimer : (disengagedRegime s).timer = s.timer.stop := by
      simp only [disengagedRegime, State.regime, leaveRegulation, if_neg hne, recordControl_timer, commitAtFrame_timer]
      rfl
    refine regimeLaw_pass ⟨rfl, rfl⟩ ?_ ?_ (timerLaw_of_stop (s := s) htimer)
    · have hbank : (disengagedRegime s).active = if s.ctl.pendingOp = .commit then s.staged else s.active := by
        simp only [disengagedRegime, State.regime, leaveRegulation, if_neg hne, recordControl_active,
          commitAtFrame_active]
        rfl
      change (disengagedRegime s).active.fault = none
      rw [hbank]
      split
      · next hc => exact hstaged hc
      · exact hactive
    · change (disengagedRegime s).timer.state = .stopped
      rw [htimer]
      rfl

theorem changes_closeDrained (s : State) : Changes s (closeDrained s) :=
  changes_foldl (fun s k => changes_closeIfDrained k s) _ s

/-- R118, R119. The merge, after what leaves the regulation beside the regime. -/
theorem Quiet.changes_merge {s u : State} (hquiet : Quiet s u) {c : Control} {moved : List Descriptor}
    (hmoved : moved.Perm (streamHeld u)) (hmode : c.mode = .pass)
    (hlaw : RegimeLaw s → RegimeLaw (s.withRegime { u.regime with ctl := c })) :
    Changes s ((u.withStore
      { u.store with queues := Table.replicate numStreams [], pass := u.store.pass ++ moved }).withCtl c) := by
  refine Relation.ReflTransGen.trans (b := u.withRegime s.regime) (hquiet s.regime) ?_
  refine (Change.merge { u.regime with ctl := c } moved (u.withRegime s.regime) hmoved hmode fun h => ?_).one
  exact RegimeLaw.congr (s := s.withRegime { u.regime with ctl := c }) rfl (hlaw (h.congr rfl))

theorem changes_disengage {s : State} (hmode : s.ctl.mode = .engaging ∨ s.ctl.mode = .regulate) :
    Changes s (disengage s) := by
  unfold disengage
  refine Changes.then_reevaluate (Relation.ReflTransGen.trans ?_ (changes_closeDrained _))
  exact (quiet_leaveRegulation s).changes_merge (List.perm_insertionSort ..) rfl (regimeLaw_disengaged hmode)

theorem changes_cmdDisengage (args : List Byte) (s : State) : Changes s (cmdDisengage args s).1 := by
  unfold cmdDisengage
  split
  · split
    · exact .refl
    · next hmode =>
      dsimp only [accepted]
      exact changes_disengage (.inl hmode)
    · next hmode =>
      dsimp only [accepted]
      exact changes_disengage (.inr hmode)
    · exact .refl
    · exact .refl
  · exact .refl

/-- R121. A quiesce keeps the mode it was taken in as its return mode: the timer runs on or stays stopped. -/
theorem regimeLaw_quiesce {s : State} {back : ReturnMode} {mode : Mode} {p : PendingOp}
    (hmode : s.ctl.mode = back.mode)
    (hpending : mode = .quiescing ∧ p = .quiesce ∨ mode = .quiesced ∧ p = .none) (h : RegimeLaw s) :
    RegimeLaw (s.withCtl { s.ctl with mode := mode, returnMode := back, pendingOp := p }) := by
  obtain ⟨⟨-, -, -, hstop⟩, ⟨hactive, -⟩, htimer, htiming⟩ := h
  have hsame : stoppedMode { s.ctl with mode := mode, returnMode := back, pendingOp := p } = stoppedMode s.ctl := by
    rw [stoppedMode_of_quiesce (hpending.imp (fun h => h.1) fun h => h.1), stoppedMode, hmode]
    cases back <;> rfl
  rw [← hsame] at hstop
  obtain ⟨rfl, rfl⟩ | ⟨rfl, rfl⟩ := hpending
  · exact ⟨⟨iff_of_false nofun nofun, iff_of_true rfl rfl, nofun, hstop⟩, ⟨hactive, nofun⟩, htimer, htiming⟩
  · exact ⟨⟨iff_of_false nofun nofun, iff_of_false nofun nofun, nofun, hstop⟩, ⟨hactive, nofun⟩, htimer, htiming⟩

theorem queueLaw_quiesce {s : State} {back : ReturnMode} {mode : Mode} {p : PendingOp}
    (hmode : s.ctl.mode = back.mode) (h : QueueLaw s) (hquiesce : mode = .quiescing ∨ mode = .quiesced) :
    QueueLaw (s.withCtl { s.ctl with mode := mode, returnMode := back, pendingOp := p }) := by
  obtain ⟨hstreams, hpass⟩ := h
  refine ⟨fun h => hstreams (.inl ?_), fun h => hpass (.inl ?_)⟩
  · obtain h | ⟨-, h⟩ := h
    · simp only [State.withCtl_ctl] at h
      simp [h] at hquiesce
    · exact hmode.trans (congrArg _ h)
  · obtain h | ⟨-, h⟩ := h
    · simp only [State.withCtl_ctl] at h
      simp [h] at hquiesce
    · exact hmode.trans (congrArg _ h)

theorem changes_quiesce {back : ReturnMode} {s : State} (hmode : s.ctl.mode = back.mode) :
    Changes s (quiesce back s).1 := by
  rw [quiesce]
  split
  · refine Changes.then_reevaluate (Relation.ReflTransGen.trans ?_ (changes_recordControl ..))
    exact changes_withCtl (regimeLaw_quiesce hmode (.inr ⟨rfl, rfl⟩)) fun h => queueLaw_quiesce hmode h (.inr rfl)
  · exact Changes.then_reevaluate
      (changes_withCtl (regimeLaw_quiesce hmode (.inl ⟨rfl, rfl⟩)) fun h => queueLaw_quiesce hmode h (.inl rfl))

theorem changes_cmdQuiesce (args : List Byte) (s : State) : Changes s (cmdQuiesce args s).1 := by
  unfold cmdQuiesce
  split
  · split
    · exact .refl
    · split
      · exact .refl
      · split
        · next hmode => exact changes_quiesce hmode
        · next hmode => exact changes_quiesce hmode
        · exact .refl
        · exact .refl
        · exact .refl
  · exact .refl

/-- R124. The return mode runs or stops the timer as the quiesce from it did. -/
theorem stoppedMode_resume {c : Control} (h : c.mode = .quiescing ∨ c.mode = .quiesced) (p : PendingOp) :
    stoppedMode { c with mode := c.returnMode.mode, pendingOp := p } = stoppedMode c := by
  rw [stoppedMode_of_quiesce h, stoppedMode]
  cases c.returnMode <;> rfl

theorem regimeLaw_resume {s : State} {p : PendingOp}
    (hpending : s.ctl.mode = .quiescing ∧ p = .none ∨ s.ctl.mode = .quiesced ∧ p = s.ctl.pendingOp) (h : RegimeLaw s) :
    RegimeLaw (s.withCtl { s.ctl with mode := s.ctl.returnMode.mode, pendingOp := p }) := by
  have hquiesce := hpending.imp (fun h => h.1) fun h => h.1
  obtain ⟨⟨hengage, hquiesceOp, hcommit, hstop⟩, ⟨hactive, hstaged⟩, htimer, htiming⟩ := h
  rw [← stoppedMode_resume hquiesce p] at hstop
  have hmode : s.ctl.returnMode.mode ≠ .engaging ∧ s.ctl.returnMode.mode ≠ .quiescing := by
    cases s.ctl.returnMode <;> exact ⟨nofun, nofun⟩
  obtain ⟨-, rfl⟩ | ⟨hquiesced, rfl⟩ := hpending
  · exact ⟨⟨iff_of_false nofun hmode.1, iff_of_false nofun hmode.2, nofun, hstop⟩, ⟨hactive, nofun⟩, htimer, htiming⟩
  · rw [hquiesced] at hengage hquiesceOp hcommit
    refine ⟨⟨iff_of_false (mt hengage.1 nofun) hmode.1, iff_of_false (mt hquiesceOp.1 nofun) hmode.2, fun h => .inl ?_,
      hstop⟩, ⟨hactive, hstaged⟩, htimer, htiming⟩
    obtain h | ⟨-, h⟩ := hcommit h
    · cases h
    · exact congrArg ReturnMode.mode h

theorem queueLaw_resume {s : State} {p : PendingOp} (hmode : s.ctl.mode = .quiescing ∨ s.ctl.mode = .quiesced)
    (h : QueueLaw s) : QueueLaw (s.withCtl { s.ctl with mode := s.ctl.returnMode.mode, pendingOp := p }) := by
  obtain ⟨hstreams, hpass⟩ := h
  have hback : ∀ {r : ReturnMode}, r.mode ≠ .quiescing ∧ r.mode ≠ .quiesced := by
    intro r
    cases r <;> exact ⟨nofun, nofun⟩
  refine ⟨fun h => hstreams (.inr ⟨hmode, ?_⟩), fun h => hpass (.inr ⟨hmode, ?_⟩)⟩
  · obtain h | ⟨-, h⟩ := h
    · cases hr : s.ctl.returnMode with
      | pass => rfl
      | regulate => simp [hr, ReturnMode.mode] at h
    · exact h
  · obtain h | ⟨-, h⟩ := h
    · cases hr : s.ctl.returnMode with
      | pass => simp [hr, ReturnMode.mode] at h
      | regulate => rfl
    · exact h

theorem changes_cmdResume (args : List Byte) (s : State) : Changes s (cmdResume args s).1 := by
  unfold cmdResume
  split
  · split
    · next hmode =>
      refine Changes.then_reevaluate (Relation.ReflTransGen.trans ?_ (changes_recordControl ..))
      exact changes_withCtl (regimeLaw_resume (.inl ⟨hmode, rfl⟩)) (queueLaw_resume (.inl hmode))
    · next hmode =>
      exact Changes.then_reevaluate (changes_withCtl (regimeLaw_resume (p := s.ctl.pendingOp) (.inr ⟨hmode, rfl⟩))
        (queueLaw_resume (.inr hmode)))
    · exact .refl
    · exact .refl
    · exact .refl
  · exact .refl

/-! ### Events, latches and counters -/

theorem changes_cmdReadEvents (args : List Byte) (s : State) : Changes s (cmdReadEvents args s).1 := by
  unfold cmdReadEvents
  split
  · split
    · dsimp only
      split
      · exact .refl
      · exact (Change.events _ s (List.drop_suffix ..)).one
    · exact .refl
  · exact .refl

theorem adapts_clear (sel : Byte) (e : StreamEntry) : e.Adapts (e.clear sel) := ⟨rfl, rfl, id, id⟩

theorem changes_cmdClearFlags (args : List Byte) (s : State) : Changes s (cmdClearFlags args s).1 := by
  have hevents (sel : Byte) (t : State) (h : t.events = s.events) : Changes t (t.withEvents (s.events.clear sel)) :=
    (Change.events _ t (h ▸ List.suffix_refl _)).one
  unfold cmdClearFlags
  split
  · next target sel =>
    split
    · exact .refl
    · split
      · split
        · exact .refl
        · exact hevents sel s rfl
      · split
        · refine Relation.ReflTransGen.trans ?_ (hevents sel _ rfl)
          refine (Change.entries _ s fun k => ?_).one
          rw [Table.get_map]
          exact adapts_clear sel _
        · split
          · split
            · exact .refl
            · exact changes_updStream (adapts_clear sel _)
          · exact .refl
  · exact .refl

theorem changes_takeSnapshot (c : GroupCopy) (clear : Bool) (s : State) : Changes s (takeSnapshot c clear s) := by
  have hcapture := (Change.snapshot (some (capture c s)) s).one
  cases clear with
  | false => exact hcapture
  | true =>
    cases c with
    | stream k g =>
      exact hcapture.trans (Change.group k (fun _ => StreamStats.reset) _ fun _ _ _ => ⟨rfl, rfl, rfl⟩).one
    | global g => exact hcapture.trans (Change.globals (fun _ => GlobalStats.reset) _).one

theorem changes_cmdSnapshot (args : List Byte) (s : State) : Changes s (cmdSnapshot args s).1 := by
  unfold cmdSnapshot
  split
  · split
    · exact changes_takeSnapshot ..
    · exact .refl
  · exact .refl

/-! ### The RESET command -/

theorem resetOrder_perm (s : State) : ((resetOrder s).map Prod.snd).Perm (allHeld s) := by
  refine ((List.perm_insertionSort ..).map Prod.snd).trans (.of_eq ?_)
  rw [queuedRequests, List.map_append, List.map_flatMap, allHeld, streamHeld_eq_flatMap]
  simp [Function.comp_def]

theorem refuseRequest_port (d : Descriptor) (reason : Reason) (k : Option StreamId) (s : State) :
    (refuseRequest d.initiator d.transaction reason k s).port =
      { s.port with sent := s.port.sent ++ [refusedResponse reason d] } := by
  rw [refuseRequest, recordRefused_port, countRefused_port]
  rfl

theorem refuseQueued_port (s : State) :
    (refuseQueued s).port =
      { s.port with sent := s.port.sent ++ ((resetOrder s).map Prod.snd).map (refusedResponse .reset) } := by
  have hfold (order : List (Option StreamId × Descriptor)) (t : State) :
      (order.foldl (fun t q => refuseRequest q.2.initiator q.2.transaction .reset q.1 t) t).port =
        { t.port with sent := t.port.sent ++ (order.map Prod.snd).map (refusedResponse .reset) } := by
    induction order generalizing t with
    | nil => simp
    | cons q order ih => simp [ih, refuseRequest_port]
  exact hfold _ s

/-- R125. The blocks' reset keeps the ports, the table, the link and the waiting commands, and reads the timer and the
prescaler. -/
theorem resetBlocks_congr {s t : State} (hport : s.port = t.port) (hdp : s.dp = t.dp) (htimer : s.timer = t.timer)
    (hsettings : s.settings = t.settings) (htable : s.table = t.table) (hlink : s.link = t.link)
    (hpending : s.pending = t.pending) : resetBlocks s = resetBlocks t := by
  simp only [resetBlocks, hport, hdp, htimer, hsettings, htable, hlink, hpending]

/-- R125. What the refusals add beside the responses, the blocks' reset takes away. -/
theorem resetBlocks_refuseQueued (s : State) :
    resetBlocks (refuseQueued s) =
      resetBlocks (s.withPort
        { s.port with sent := s.port.sent ++ ((resetOrder s).map Prod.snd).map (refusedResponse .reset) }) :=
  resetBlocks_congr (refuseQueued_port s) (refuseQueued_dp s) (refuseQueued_timer s) (refuseQueued_settings s)
    (refuseQueued_table s) (refuseQueued_link s) (refuseQueued_pending s)

theorem changes_resetCommand (s : State) : Changes s (resetCommand s) := by
  refine Changes.then_reevaluate (Relation.ReflTransGen.trans ?_ (changes_recordControl ..))
  rw [resetBlocks_refuseQueued]
  exact (Change.reset _ s (resetOrder_perm s)).one

theorem changes_cmdReset (args : List Byte) (s : State) : Changes s (cmdReset args s).1 := by
  unfold cmdReset
  split
  · exact changes_resetCommand s
  · exact .refl

/-! ### The link -/

theorem changes_respond {run : State → State × Answer} (h : ∀ s, Changes s (run s).1) (seq : Byte) (retain : Bool)
    (s : State) : Changes s (respond seq retain run s) :=
  ((Change.link _ s).one.trans (h _)).trans (Change.link _ _).one

/-! ### Every command -/

theorem changes_withLink (l : Link) (s : State) : Changes s (s.withLink l) := (Change.link l s).one

/-- R159, R162. A link command is its row. -/
theorem exec_instr (c : LinkCommand) (seq : Byte) (args : List Byte) (s : State) :
    exec (c.instr seq args) s = .next (takeCommand c seq args s) := by cases c <;> rfl

theorem changes_linkCrc (seq : Byte) (s : State) : Changes s (linkCrc seq s) :=
  changes_respond (fun s => (Change.globals (fun g => { g with crcErrors := satAdd g.crcErrors 1 }) s).one) seq true s

theorem changes_linkLength (seq : Byte) (s : State) : Changes s (linkLength seq s) :=
  changes_respond (fun _ => .refl) seq true s

theorem changes_badCommand (seq : Byte) (s : State) : Changes s (badCommand seq s) :=
  changes_respond (fun _ => .refl) seq true s

theorem changes_repeatLast (seq : Byte) (args : List Byte) (s : State) : Changes s (repeatLast seq args s) :=
  (changes_withLink _ s).trans (changes_withLink _ _)

/-- A command that answers the state as it was. -/
theorem cmd_unchanged (args : List Byte) (s : State) :
    (cmdStatus args s).1 = s ∧ (cmdReadSettings args s).1 = s ∧ (cmdReadStream args s).1 = s ∧
      (cmdReadSlots args s).1 = s ∧ (cmdReadSnapshot args s).1 = s := by
  refine ⟨?_, ?_, ?_, ?_, ?_⟩
  · unfold cmdStatus
    split <;> rfl
  · unfold cmdReadSettings
    split <;> rfl
  · unfold cmdReadStream
    split
    · split <;> rfl
    · rfl
  · unfold cmdReadSlots
    split
    · split
      · split <;> rfl
      · rfl
    · rfl
  · unfold cmdReadSnapshot
    split
    · split <;> rfl
    · rfl

theorem changes_takeCommand (c : LinkCommand) (seq : Byte) (args : List Byte) (s : State) :
    Changes s (takeCommand c seq args s) := by
  have hsame {run : State → State × Answer} (h : ∀ s, (run s).1 = s) : Changes s (respond seq true run s) :=
    changes_respond (fun s => (h s).symm ▸ .refl) seq true s
  have hstep {run : State → State × Answer} (h : ∀ s, Changes s (run s).1) : Changes s (respond seq true run s) :=
    changes_respond h seq true s
  cases c with
  | status => exact hsame fun s => (cmd_unchanged args s).1
  | readSettings => exact hsame fun s => (cmd_unchanged args s).2.1
  | writeSettings => exact hstep (changes_cmdWriteSettings args)
  | readStream => exact hsame fun s => (cmd_unchanged args s).2.2.1
  | writeStream => exact hstep (changes_cmdWriteStream args)
  | setStreamState => exact hstep (changes_cmdSetStreamState args)
  | flushStream => exact hstep (changes_cmdFlushStream args)
  | clearFlags => exact hstep (changes_cmdClearFlags args)
  | readSlots => exact hsame fun s => (cmd_unchanged args s).2.2.2.1
  | writeSlots => exact hstep (changes_cmdWriteSlots args)
  | setSlotCount => exact hstep (changes_cmdSetSlotCount args)
  | commit => exact hstep (changes_cmdCommit args)
  | engage => exact hstep (changes_cmdEngage args)
  | disengage => exact hstep (changes_cmdDisengage args)
  | quiesce => exact hstep (changes_cmdQuiesce args)
  | resume => exact hstep (changes_cmdResume args)
  | snapshot => exact hstep (changes_cmdSnapshot args)
  | readSnapshot => exact hsame fun s => (cmd_unchanged args s).2.2.2.2
  | readEvents => exact hstep (changes_cmdReadEvents args)
  | reset => exact hstep (changes_cmdReset args)
  | repeatLast => exact changes_repeatLast seq args s
  | revertStaged => exact hstep (changes_cmdRevertStaged args)

theorem changes_receiveByte (bytes : List Byte) (s : State) : Changes s (receiveByte bytes s) := by
  rw [receiveByte]
  split
  · exact changes_withLink _ s
  · exact changes_linkLength _ s
  · exact changes_linkCrc _ s
  · exact changes_badCommand _ s
  · exact changes_takeCommand _ _ _ s

theorem exec_tick (fsync : Level) (s : State) : exec (.tick fsync) s = .next (advance fsync (settle s)) := rfl

/-- A change of the level on the line alone. -/
theorem changes_line (level : Level) (s : State) : Changes s (s.withTimer { s.timer with line := level }) :=
  changes_withTimer id

/-- The state a command other than a power-on reset or a taken offer answers. -/
theorem exec_changes {c : Instr} {s t : State} (h : exec c s = .next t) (hreset : c ≠ .powerOnReset)
    (hoffer : ∀ header data, c = .requestOffer header data → s.port.offer ≠ none) : Changes s t := by
  have hlink (l : LinkCommand) (seq : Byte) (args : List Byte) (h : exec (l.instr seq args) s = .next t) :
      Changes s t := by
    rw [exec_instr] at h
    cases h
    exact changes_takeCommand l seq args s
  cases c with
  | powerOnReset => exact absurd rfl hreset
  | tick fsync =>
    rw [exec_tick] at h
    rw [← Host.Outcome.next.inj h]
    exact changes_tick fsync s
  | slotEnd => cases h; exact changes_slotEndIfDue s
  | commitCompletion =>
    cases h
    split
    · exact changes_ite (changes_frameEvent s)
    · exact .refl
  | fsyncEdge level =>
    cases h
    split
    · exact (changes_line level s).trans (changes_judgeSample _)
    · exact changes_line level s
  | syncQualification => cases h; exact changes_qualifyIfDue s
  | syncTimeoutExpiry => cases h; exact changes_expireSyncIfDue s
  | requestOffer header data =>
    cases hplace : s.port.offer with
    | none => exact absurd hplace (hoffer header data rfl)
    | some r =>
      simp only [exec, execRequestOffer, hplace] at h
      cases h
      exact .refl
  | deadlineCrossing => cases h; exact changes_crossOldest s
  | dpReady => cases h; exact (Change.dp _ s).one
  | release => cases h; exact changes_releaseIfDue s
  | engagementCompletion =>
    cases h
    split
    · next hdue =>
      obtain ⟨hmode, hpass⟩ := (engagementDue_iff s).1 hdue
      exact Changes.then_reevaluate (changes_completeEngagement s.ctl (.inr hmode) hpass)
    · exact .refl
  | quiesceCompletion =>
    cases h
    split
    · next hdue => exact Changes.then_reevaluate (changes_completeQuiesce ((quiesceDue_iff s).1 hdue).1)
    · exact .refl
  | streamAutomaticClose k => cases h; exact changes_ite (changes_settleCounts (some k) s)
  | responseArrival header data => cases h; exact changes_arrive _ s
  | responseTimeoutExpiry tag => cases h; exact changes_expireIfDue tag s
  | mselAssertion =>
    simp only [exec, execMselAssertion] at h
    split at h <;> cases h
    · exact changes_withLink _ s
    all_goals exact .refl
  | mselDeassertion =>
    simp only [exec, execMselDeassertion] at h
    split at h <;> cases h
    · exact .refl
    · exact changes_withLink _ s
    · exact (changes_withLink _ s).trans (Change.globals (fun g => { g with aborted := satAdd g.aborted 1 }) _).one
    all_goals exact changes_withLink _ s
  | responseFrameReady =>
    simp only [exec, execResponseFrameReady] at h
    split at h <;> cases h
    · exact changes_withLink _ s
    · exact .refl
  | linkCrc seq => cases h; exact changes_linkCrc seq s
  | linkLength seq => cases h; exact changes_linkLength seq s
  | badCommand seq => cases h; exact changes_badCommand seq s
  | status seq args => exact hlink .status seq args h
  | readSettings seq args => exact hlink .readSettings seq args h
  | writeSettings seq args => exact hlink .writeSettings seq args h
  | readStream seq args => exact hlink .readStream seq args h
  | writeStream seq args => exact hlink .writeStream seq args h
  | setStreamState seq args => exact hlink .setStreamState seq args h
  | flushStream seq args => exact hlink .flushStream seq args h
  | clearFlags seq args => exact hlink .clearFlags seq args h
  | readSlots seq args => exact hlink .readSlots seq args h
  | writeSlots seq args => exact hlink .writeSlots seq args h
  | setSlotCount seq args => exact hlink .setSlotCount seq args h
  | commit seq args => exact hlink .commit seq args h
  | engage seq args => exact hlink .engage seq args h
  | disengage seq args => exact hlink .disengage seq args h
  | quiesce seq args => exact hlink .quiesce seq args h
  | resume seq args => exact hlink .resume seq args h
  | snapshot seq args => exact hlink .snapshot seq args h
  | readSnapshot seq args => exact hlink .readSnapshot seq args h
  | readEvents seq args => exact hlink .readEvents seq args h
  | reset seq args => exact hlink .reset seq args h
  | repeatLast seq args => exact hlink .repeatLast seq args h
  | revertStaged seq args => exact hlink .revertStaged seq args h
  | byteBoundary mdi =>
    simp only [exec, execByteBoundary] at h
    split at h <;> cases h
    · exact changes_receiveByte _ s
    · exact changes_ite (changes_withLink _ s)
    · exact changes_withLink _ s
    all_goals exact .refl

/-- R59, R151. The evaluation of a request reads nothing of the offer place. -/
theorem judge_setOffer (o : Option UpRequest) (s : State) (r : UpRequest) : judge (setOffer o s) r = judge s r := rfl

/-- R151. An offer that is taken is an offer placed and then evaluated. -/
theorem evaluate_setOffer (o : Option UpRequest) (s : State) (r : UpRequest) :
    evaluate r (setOffer o s) = evaluate r s := by
  simp only [evaluate, judge_setOffer]
  cases judge s r <;> rfl

theorem exec_requestOffer_changes {header : BitVec 64} {data : List DataUnit} {s t : State} (hoffer : s.port.offer = none)
    (h : exec (.requestOffer header data) s = .next t) :
    Changes (setOffer (some (decodeUpRequest header data)) s) t := by
  rw [exec_requestOffer_of_empty hoffer] at h
  cases h
  rw [← evaluate_setOffer (some (decodeUpRequest header data)) s]
  exact changes_evaluate rfl

/-- A law that every change keeps, that a power-on reset establishes, and that reads neither the offer place nor the
waiting commands, every step keeps. -/
theorem keptByStep_of_changes {P : State → Prop} (hchange : ∀ s t, Change s t → P s → P t)
    (hreset : ∀ s t, exec .powerOnReset s = .next t → P t) (hoffer : ∀ s o, P s → P (setOffer o s))
    (hpending : ∀ s l, P s → P (s.withPending l)) : KeptByStep P := by
  intro s t hs hstep
  rw [step] at hstep
  split at hstep
  · cases hstep
    exact hs
  · next c rest hqueue =>
    have hs' := hpending s rest hs
    by_cases hc : c = .powerOnReset
    · subst hc
      exact hreset _ _ hstep
    · by_cases htaken : ∃ header data, c = .requestOffer header data ∧ (s.withPending rest).port.offer = none
      · obtain ⟨header, data, rfl, hempty⟩ := htaken
        exact (exec_requestOffer_changes hempty hstep).keep hchange (hoffer _ _ hs')
      · refine (exec_changes hstep hc fun header data hoff hempty => ?_).keep hchange hs'
        exact htaken ⟨header, data, hoff, hempty⟩

/-! PROOFS. The state laws, kept one by one by every change, and so by every step (O54 to O59). -/

/-! ### The laws after power-on reset -/

theorem queueOf_reset (k : StreamId) : queueOf State.reset k = [] := Table.get_replicate _ k

theorem allHeld_reset : allHeld State.reset = [] := rfl

theorem storeLaw_reset : StoreLaw State.reset := by
  refine ⟨Nat.zero_le _, Nat.zero_le _, fun k => ?_⟩
  rw [queuedCount, queueOf_reset]
  exact Nat.zero_le _

theorem reserve_reset (k : StreamId) : (State.reset.streams.get k).reserve = 0#8 :=
  congrArg StreamEntry.reserve (Table.get_replicate _ k)

theorem reserveLaw_reset : ReserveLaw State.reset := by
  simp [ReserveLaw, reserve_reset]

theorem creditLaw_reset : CreditLaw State.reset := fun k => by
  have h : State.reset.streams.get k = StreamEntry.reset := Table.get_replicate _ k
  rw [h]
  exact ⟨Nat.zero_le _, fun _ => rfl⟩

theorem inFlightCount_reset (k : StreamId) : inFlightCount State.reset k = 0 :=
  List.countP_eq_zero.2 fun e he => by
    rw [List.eq_of_mem_replicate he]
    exact Bool.false_ne_true

theorem disabledLaw_reset : DisabledLaw State.reset := fun k _ => ⟨queueOf_reset k, inFlightCount_reset k⟩

theorem bank_reset_valid : Bank.reset.fault = none := by decide

theorem regimeLaw_reset : RegimeLaw State.reset :=
  regimeLaw_pass ⟨rfl, rfl⟩ bank_reset_valid rfl ⟨rfl, nofun, .inl rfl, nofun, fun _ => rfl, Nat.zero_le _, Nat.zero_le _⟩

theorem heldTags_reset : heldTags State.reset = [] := by decide

theorem tagLaw_reset : TagLaw State.reset := by
  rw [TagLaw, heldTags_reset]
  exact List.nodup_nil

theorem queueLaw_reset : QueueLaw State.reset := ⟨fun _ => queueOf_reset, fun _ => rfl⟩

theorem lengthLaw_reset : LengthLaw State.reset := by
  refine ⟨by simp [allHeld_reset], fun t => ?_⟩
  rw [reset_table_get]
  trivial

theorem latencyLaw_reset : LatencyLaw State.reset := fun k => by
  have h : State.reset.stats.streams.get k = StreamStats.reset := Table.get_replicate _ k
  rw [h]
  exact fun _ => ⟨rfl, rfl, rfl⟩

theorem eventQueueLaw_reset : EventQueueLaw State.reset := by decide

theorem linkLaw_reset : LinkLaw State.reset := ⟨nofun, nofun, rfl, rfl, rfl, rfl⟩

/-- Settles O54: law by law. -/
theorem stateLawsHoldAtReset : Obligations.StateLawsHoldAtReset := by
  obtain ⟨hmode, hschedule, htimer, htiming⟩ := regimeLaw_reset
  exact ⟨⟨eventQueueLaw_reset, storeLaw_reset, reserveLaw_reset, creditLaw_reset⟩,
    ⟨disabledLaw_reset, hschedule, hmode, htimer⟩, ⟨htiming, tagLaw_reset, queueLaw_reset, lengthLaw_reset⟩,
    latencyLaw_reset, linkLaw_reset⟩

/-! ### The Event Queue and the latency values -/

theorem isOrdinary_countLoss (r : EventRecord) : r.countLoss.isOrdinary = r.isOrdinary := by
  rw [EventRecord.isOrdinary, isOverflow_countLoss, EventRecord.isOrdinary]

theorem all_isOrdinary_iff (rs : List EventRecord) : rs.all EventRecord.isOrdinary = true ↔ hasOverflow rs = false := by
  simp [hasOverflow, EventRecord.isOrdinary]

/-- R130, R131. A queue within its law stays within it when a record is presented. -/
theorem eventQueueLaw_present (r : EventRecord) {s : State} (h : EventQueueLaw s) : EventQueueLaw (present r s) := by
  obtain ⟨hlength, hordinary, hlast⟩ := h
  change (storeRecord s.events.records r).length ≤ 32 ∧
    (storeRecord s.events.records r).countP EventRecord.isOrdinary ≤ 31 ∧
    (storeRecord s.events.records r).dropLast.all EventRecord.isOrdinary = true
  have hmap : EventRecord.isOrdinary ∘ EventRecord.countLoss = EventRecord.isOrdinary := funext isOrdinary_countLoss
  obtain ⟨-, hs⟩ | ⟨hno, hroom, hs⟩ | ⟨hno, hfull, hs⟩ := storeRecord_cases s.events.records r <;> rw [hs]
  · refine ⟨by rwa [List.length_map], by rwa [List.countP_map, hmap], ?_⟩
    rwa [← List.map_dropLast, List.all_map, hmap]
  · refine ⟨by rw [List.length_append, List.length_singleton]; omega, List.countP_le_length.trans ?_, ?_⟩
    · rw [List.length_append, List.length_singleton]
      omega
    · rwa [List.dropLast_concat, all_isOrdinary_iff]
  · have hall := (all_isOrdinary_iff _).2 hno
    have hcount : s.events.records.countP EventRecord.isOrdinary = s.events.records.length :=
      List.countP_eq_length.2 (List.all_eq_true.1 hall)
    have hloss : r.overflowFor.isOrdinary = false := by rw [EventRecord.isOrdinary, isOverflow_overflowFor]; rfl
    refine ⟨by rw [List.length_append, List.length_singleton]; omega, ?_, by rwa [List.dropLast_concat]⟩
    rw [List.countP_append, List.countP_singleton, hloss]
    exact hordinary

/-- R133. The oldest records leave. -/
theorem eventQueueLaw_suffix {s t : State} (h : t.events.records <:+ s.events.records) (hs : EventQueueLaw s) :
    EventQueueLaw t := by
  obtain ⟨hlength, hordinary, hlast⟩ := hs
  refine ⟨h.length_le.trans hlength, (h.sublist.countP_le).trans hordinary, ?_⟩
  obtain ⟨front, hfront⟩ := h
  rcases List.eq_nil_or_concat' t.events.records with hnil | ⟨init, last, hconcat⟩
  · rw [hnil]
    rfl
  · rw [← hfront, hconcat, ← List.append_assoc, List.dropLast_concat, List.all_append, Bool.and_eq_true] at hlast
    rw [hconcat, List.dropLast_concat]
    exact hlast.2

theorem Change.eventQueueLaw {s t : State} (h : Change s t) (hs : EventQueueLaw s) : EventQueueLaw t := by
  cases h with
  | record r => exact eventQueueLaw_present r hs
  | events e _ h => exact eventQueueLaw_suffix h hs
  | reset => exact eventQueueLaw_reset
  | _ => exact hs

theorem Change.latencyLaw {s t : State} (h : Change s t) (hs : LatencyLaw s) : LatencyLaw t := by
  cases h with
  | group k f _ hf =>
    intro j
    simp only [updStats, State.withStats_stats, Table.get_set]
    split
    · exact hf _ (hs k)
    · exact hs j
  | reset => exact latencyLaw_reset
  | _ => exact hs

/-- A law of state other than timer and waiting commands holds after a power-on reset when it holds of the reset state. -/
theorem powerOnReset_law {P : State → Prop}
    (h : ∀ line l, P ((State.reset.withPending l).withTimer { Timer.reset with line := line, sample := line }))
    (s t : State) (hexec : exec .powerOnReset s = .next t) : P t := by
  rw [exec_powerOnReset] at hexec
  rw [← Host.Outcome.next.inj hexec]
  exact h s.timer.line s.pending

theorem eventQueueLaw_kept : KeptByStep EventQueueLaw :=
  keptByStep_of_changes (fun _ _ h hs => h.eventQueueLaw hs) (powerOnReset_law fun _ _ => eventQueueLaw_reset)
    (fun _ _ hs => hs) fun _ _ hs => hs

theorem latencyLaw_kept : KeptByStep LatencyLaw :=
  keptByStep_of_changes (fun _ _ h hs => h.latencyLaw hs) (powerOnReset_law fun _ _ => latencyLaw_reset)
    (fun _ _ hs => hs) fun _ _ hs => hs

/-! ### The regime -/

theorem Change.regimeLaw {s t : State} (h : Change s t) (hs : RegimeLaw s) : RegimeLaw t := by
  cases h with
  | merge r moved _ _ _ hlaw => exact RegimeLaw.congr rfl (hlaw hs)
  | regime r _ hlaw _ => exact hlaw hs
  | reset refused _ _ =>
    exact regimeLaw_pass ⟨rfl, rfl⟩ bank_reset_valid rfl
      ⟨rfl, nofun, .inl rfl, nofun, fun _ => rfl, Nat.zero_le _, Nat.zero_le _⟩
  | _ => exact hs.congr rfl

/-- Settles O58: a law of the regime, which every change keeps. -/
theorem modeAndTimerLawsAreKept : Obligations.ModeAndTimerLawsAreKept :=
  keptByStep_of_changes (P := RegimeLaw) (fun _ _ h hs => h.regimeLaw hs)
    (powerOnReset_law fun _ _ => regimeLaw_pass ⟨rfl, rfl⟩ bank_reset_valid rfl
      ⟨rfl, nofun, .inl rfl, nofun, fun _ => rfl, Nat.zero_le _, Nat.zero_le _⟩)
    (fun _ _ hs => hs) fun _ _ hs => hs

/-! ### One place of a table changes -/

theorem list_cons_set_perm {α : Type} (l : List α) (i : Nat) (h : i < l.length) (a : α) :
    (l[i] :: l.set i a).Perm (a :: l) := by
  induction l generalizing i with
  | nil => cases h
  | cons b l ih =>
    cases i with
    | zero => exact .swap a b l
    | succ i => exact ((List.Perm.swap ..).trans ((ih i (Nat.lt_of_succ_lt_succ h)).cons b)).trans (.swap a b l)

theorem table_cons_set_perm {n : Nat} {α : Type} (t : Table n α) (i : Fin n) (a : α) :
    (t.get i :: (t.set i a).cells).Perm (a :: t.cells) :=
  list_cons_set_perm t.cells i.val (by rw [t.size]; exact i.isLt) a

/-- R57. What the store holds once stream `k`'s queue is replaced. -/
theorem streamHeld_setQueue_perm (k : StreamId) (q : List Descriptor) (s : State) :
    (queueOf s k ++ streamHeld (setQueue k q s)).Perm (q ++ streamHeld s) :=
  (table_cons_set_perm s.store.queues k q).flatten

theorem allHeld_setQueue_perm (k : StreamId) (q : List Descriptor) (s : State) :
    (queueOf s k ++ allHeld (setQueue k q s)).Perm (q ++ allHeld s) := by
  have h := (streamHeld_setQueue_perm k q s).append_right s.store.pass
  rwa [List.append_assoc, List.append_assoc] at h

theorem queueOf_setQueue (k j : StreamId) (q : List Descriptor) (s : State) :
    queueOf (setQueue k q s) j = if k = j then q else queueOf s j := Table.get_set ..

/-- A sum over the streams in which one term changes. -/
theorem sum_of_one_changed {f g : StreamId → Nat} (k : StreamId) (h : ∀ j, j ≠ k → g j = f j) :
    ((List.finRange 24).map g).sum + f k = ((List.finRange 24).map f).sum + g k := by
  have hrest : ∑ j ∈ Finset.univ.erase k, g j = ∑ j ∈ Finset.univ.erase k, f j :=
    Finset.sum_congr rfl fun j hj => h j (Finset.ne_of_mem_erase hj)
  rw [← Fin.sum_univ_def, ← Fin.sum_univ_def, ← Finset.add_sum_erase _ g (Finset.mem_univ k),
    ← Finset.add_sum_erase _ f (Finset.mem_univ k), hrest, Nat.add_right_comm, Nat.add_right_comm (f k),
    Nat.add_comm (g k)]

/-- R98. The count of one stream's entries in flight when one entry changes. -/
theorem inFlightCount_setEntry (t : Tag) (e : Entry) (s : State) (k : StreamId) :
    inFlightCount (setEntry t e s) k + (if (s.table.get t).isInFlightOf k then 1 else 0) =
      inFlightCount s k + if e.isInFlightOf k then 1 else 0 := by
  have h := (table_cons_set_perm s.table t e).countP_eq (Entry.isInFlightOf k)
  rwa [List.countP_cons, List.countP_cons] at h

theorem inFlightCount_setEntry_eq_zero {t : Tag} {e : Entry} {s : State} {k : StreamId} (he : e.isInFlightOf k = false)
    (h : inFlightCount s k = 0) : inFlightCount (setEntry t e s) k = 0 := by
  have hcount := inFlightCount_setEntry t e s k
  rw [he, h] at hcount
  simp only [Bool.false_eq_true, if_false] at hcount
  omega

/-! ### Credits and DISABLED streams -/

theorem Change.creditLaw {s t : State} (h : Change s t) (hs : CreditLaw s) : CreditLaw t := by
  have hset {k : StreamId} {e : StreamEntry} (he : e.CreditOk) (j : StreamId) : ((s.streams.set k e).get j).CreditOk := by
    rw [Table.get_set]
    split
    · exact he
    · exact hs j
  cases h with
  | entries x _ h => exact fun k => (h k).credit (hs k)
  | close k _ _ _ => exact hset ⟨Nat.zero_le _, fun _ => rfl⟩
  | write k e _ _ hcredit _ _ => exact hset (hcredit (hs k))
  | reset => exact creditLaw_reset
  | _ => exact hs

theorem isInFlightOf_of_free_or_orphaned {e : Entry} {h : Held} (he : e = .free ∨ e = .orphaned h) (k : StreamId) :
    e.isInFlightOf k = false := by
  rcases he with rfl | rfl <;> rfl

theorem inFlightCount_forget (s : State) (k : StreamId) :
    (s.table.map Entry.forget).cells.countP (Entry.isInFlightOf k) = 0 := by
  rw [Table.cells_map, List.countP_map]
  refine List.countP_eq_zero.2 fun e _ => ?_
  cases e <;> simp [Entry.forget, Entry.isInFlightOf]

theorem Change.disabledLaw {s t : State} (h : Change s t) (hs : DisabledLaw s) : DisabledLaw t := by
  cases h with
  | entries x _ h => exact fun k hk => hs k ((h k).disabled hk)
  | toStream k r _ _ hjudge =>
    obtain ⟨-, -, -, -, hstate, -⟩ := judge_toStream hjudge
    intro j hj
    obtain ⟨hqueue, hflight⟩ := hs j hj
    refine ⟨?_, hflight⟩
    change (s.store.queues.set k _).get j = []
    rw [Table.get_set, if_neg]
    · exact hqueue
    · rintro rfl
      change (s.streams.get k).state = .disabled at hj
      simp [hj] at hstate
  | mark k q _ h =>
    intro j hj
    obtain ⟨hqueue, hflight⟩ := hs j hj
    refine ⟨?_, hflight⟩
    rw [queueOf_setQueue]
    split
    · next hk =>
      subst hk
      rw [hqueue] at h
      exact List.map_eq_nil_iff.1 h
    · exact hqueue
  | send k d rest t _ hq ht =>
    intro j hj
    obtain ⟨hqueue, hflight⟩ := hs j hj
    have hkj : k ≠ j := by
      rintro rfl
      rw [hqueue] at hq
      cases hq
    refine ⟨?_, inFlightCount_setEntry_eq_zero (s := setQueue k rest s)
      (by simp [Entry.isInFlightOf, Descriptor.held, hkj]) hflight⟩
    change queueOf (setQueue k rest s) j = []
    rwa [queueOf_setQueue, if_neg hkj]
  | sendPass d rest t _ _ ht =>
    intro j hj
    obtain ⟨hqueue, hflight⟩ := hs j hj
    exact ⟨hqueue, inFlightCount_setEntry_eq_zero (s := setPass rest s)
      (by simp [Entry.isInFlightOf, Descriptor.held]) hflight⟩
  | answer t h e x _ _ he _ =>
    intro j hj
    obtain ⟨hqueue, hflight⟩ := hs j hj
    exact ⟨hqueue, inFlightCount_setEntry_eq_zero (s := emitUp x s) (isInFlightOf_of_free_or_orphaned he j) hflight⟩
  | discard t h _ _ =>
    intro j hj
    obtain ⟨hqueue, hflight⟩ := hs j hj
    exact ⟨hqueue, inFlightCount_setEntry_eq_zero rfl hflight⟩
  | close k _ hq hf =>
    intro j hj
    by_cases hkj : k = j
    · exact hkj ▸ ⟨hq, hf⟩
    · refine hs j ?_
      change ((s.streams.set k _).get j).state = .disabled at hj
      rwa [Table.get_set_ne _ _ hkj] at hj
  | write k e _ hstate _ _ _ =>
    intro j hj
    refine hs j ?_
    change ((s.streams.set k e).get j).state = .disabled at hj
    rw [Table.get_set] at hj
    split at hj
    · next hkj => rw [← hkj, ← hstate]; exact hj
    · exact hj
  | flush k _ _ =>
    intro j hj
    obtain ⟨hqueue, hflight⟩ := hs j hj
    refine ⟨?_, hflight⟩
    change queueOf (setQueue k [] s) j = []
    rw [queueOf_setQueue]
    split
    · rfl
    · exact hqueue
  | merge r moved _ _ _ _ => exact fun j hj => ⟨Table.get_replicate _ j, (hs j hj).2⟩
  | reset => exact fun j _ => ⟨Table.get_replicate _ j, inFlightCount_forget s j⟩
  | _ => exact hs

/-- Settles O57: the credits and the DISABLED streams, law by law. -/
theorem streamLawsAreKept : Obligations.StreamLawsAreKept :=
  ⟨keptByStep_of_changes (fun _ _ h hs => h.creditLaw hs) (powerOnReset_law fun _ _ => creditLaw_reset)
      (fun _ _ hs => hs) fun _ _ hs => hs,
    keptByStep_of_changes (fun _ _ h hs => h.disabledLaw hs) (powerOnReset_law fun _ _ => disabledLaw_reset)
      (fun _ _ hs => hs) fun _ _ hs => hs⟩

/-! ### The Request Store's laws -/

/-- The laws of the store and of the reserves, which hold together. -/
abbrev StoreLaws (s : State) : Prop := StoreLaw s ∧ ReserveLaw s

/-- The laws of the store read the queues, the pass queue, the limits and the reserves alone. -/
theorem StoreLaws.congr {s t : State} (h : StoreLaws s) (hqueues : t.store.queues = s.store.queues)
    (hpass : t.store.pass = s.store.pass)
    (hstreams : ∀ k, (t.streams.get k).queueLimit = (s.streams.get k).queueLimit ∧
      (t.streams.get k).reserve = (s.streams.get k).reserve) : StoreLaws t := by
  simpa only [StoreLaws, StoreLaw, ReserveLaw, freeDescriptors, allHeld, streamHeld, queuedCount, queueOf, hqueues,
    hpass, fun k => (hstreams k).1, fun k => (hstreams k).2] using h

theorem sum_writeUnits_of_perm {a b c d : List Descriptor} (h : (a ++ b).Perm (c ++ d)) :
    (a.map Descriptor.writeUnits).sum + (b.map Descriptor.writeUnits).sum =
      (c.map Descriptor.writeUnits).sum + (d.map Descriptor.writeUnits).sum := by
  have hsum := (h.map Descriptor.writeUnits).sum_eq
  rwa [List.map_append, List.map_append, List.sum_append, List.sum_append] at hsum

/-- R69. The shortfall when one queue is replaced. -/
theorem reserveShortfall_setQueue (k : StreamId) (q : List Descriptor) (s : State) :
    reserveShortfall (setQueue k q s) + ((s.streams.get k).reserve.toNat - (queueOf s k).length) =
      reserveShortfall s + ((s.streams.get k).reserve.toNat - q.length) := by
  have h := sum_of_one_changed (f := fun j => (s.streams.get j).reserve.toNat - queuedCount s j)
    (g := fun j => (s.streams.get j).reserve.toNat - queuedCount (setQueue k q s) j) k fun j hj => by
      rw [queuedCount, queueOf_setQueue, if_neg hj.symm, queuedCount]
  have hnew : queuedCount (setQueue k q s) k = q.length := by rw [queuedCount, queueOf_setQueue, if_pos rfl]
  rwa [hnew] at h

theorem queuedCount_setQueue_le {k : StreamId} {q : List Descriptor} {s : State} (hlaw : StoreLaw s)
    (h : q.length ≤ (s.streams.get k).queueLimit.toNat) (j : StreamId) :
    queuedCount (setQueue k q s) j ≤ (s.streams.get j).queueLimit.toNat := by
  rw [queuedCount, queueOf_setQueue]
  split
  · next hkj => exact hkj ▸ h
  · exact hlaw.2.2 j

/-- R57, R68, R69. A queue that shrinks, or keeps its size, keeps the laws of the store. -/
theorem storeLaws_setQueue {k : StreamId} {q : List Descriptor} {s : State} (hlength : q.length ≤ (queueOf s k).length)
    (hunits : (q.map Descriptor.writeUnits).sum ≤ ((queueOf s k).map Descriptor.writeUnits).sum) (h : StoreLaws s) :
    StoreLaws (setQueue k q s) := by
  have hheld := (allHeld_setQueue_perm k q s).length_eq
  have hsum := sum_writeUnits_of_perm (allHeld_setQueue_perm k q s)
  have hshort := reserveShortfall_setQueue k q s
  obtain ⟨hstore, hreserve, hsuffice⟩ := h
  obtain ⟨hcount, hdata, hlimit⟩ := hstore
  rw [List.length_append, List.length_append] at hheld
  refine ⟨⟨by omega, by omega, queuedCount_setQueue_le ⟨hcount, hdata, hlimit⟩ (hlength.trans (hlimit k))⟩, hreserve, ?_⟩
  change reserveShortfall (setQueue k q s) ≤ 128 - (allHeld (setQueue k q s)).length + s.store.pass.length
  change reserveShortfall s ≤ 128 - (allHeld s).length + s.store.pass.length at hsuffice
  omega

/-- R57, R63, R80. The pass queue changes its size within the free descriptors and data units. -/
theorem storeLaws_setPass {q : List Descriptor} {s : State}
    (hlength : q.length + (streamHeld s).length ≤ 128)
    (hunits : ((streamHeld s ++ q).map Descriptor.writeUnits).sum ≤ 384) (h : StoreLaws s) :
    StoreLaws (setPass q s) := by
  obtain ⟨⟨hcount, hdata, hlimit⟩, hreserve, hsuffice⟩ := h
  have hheld : (allHeld (setPass q s)).length = (streamHeld s).length + q.length := List.length_append
  have hold : (allHeld s).length = (streamHeld s).length + s.store.pass.length := List.length_append
  refine ⟨⟨by omega, hunits, hlimit⟩, hreserve, ?_⟩
  change reserveShortfall s ≤ 128 - (allHeld (setPass q s)).length + q.length
  change reserveShortfall s ≤ 128 - (allHeld s).length + s.store.pass.length at hsuffice
  omega

theorem writeUnits_newDescriptor (s : State) (r : UpRequest) :
    (newDescriptor s r).writeUnits = UpRequest.writeUnits r := rfl

/-- R63. An acceptance into the pass queue takes a free descriptor and free data units. -/
theorem storeLaws_toPass {r : UpRequest} {s : State} (hjudge : judge s r = .toPass) (h : StoreLaws s) :
    StoreLaws (setPass (s.store.pass ++ [newDescriptor s r]) s) := by
  obtain ⟨-, -, -, hfits⟩ := judge_toPass hjudge
  simp only [passFits, Bool.and_eq_true, decide_eq_true_eq] at hfits
  have hfree : 1 ≤ 128 - (allHeld s).length := hfits.1
  have hunits : UpRequest.writeUnits r ≤ 384 - ((allHeld s).map Descriptor.writeUnits).sum := hfits.2
  have hold : (allHeld s).length = (streamHeld s).length + s.store.pass.length := List.length_append
  have hdata : ((allHeld s).map Descriptor.writeUnits).sum ≤ 384 := h.1.2.1
  refine storeLaws_setPass ?_ ?_ h
  · rw [List.length_append, List.length_singleton]
    omega
  · rw [← List.append_assoc, List.map_append, List.sum_append, List.map_singleton, List.sum_singleton,
      writeUnits_newDescriptor]
    exact (Nat.add_le_add_left hunits _).trans (Nat.add_sub_of_le hdata).le

/-- R68, R69. An acceptance into a stream's queue takes a grantable descriptor and free data units. -/
theorem storeLaws_toStream {k : StreamId} {r : UpRequest} {s : State} (hjudge : judge s r = .toStream k)
    (h : StoreLaws s) : StoreLaws (setQueue k (queueOf s k ++ [newDescriptor s r]) s) := by
  obtain ⟨-, -, -, -, -, -, hroom⟩ := judge_toStream hjudge
  simp only [capacity, Bool.and_eq_true, decide_eq_true_eq] at hroom
  obtain ⟨⟨hlimit, hgrant⟩, hunits⟩ := hroom
  have hheld := (allHeld_setQueue_perm k (queueOf s k ++ [newDescriptor s r]) s).length_eq
  have hsum := sum_writeUnits_of_perm (allHeld_setQueue_perm k (queueOf s k ++ [newDescriptor s r]) s)
  have hshort := reserveShortfall_setQueue k (queueOf s k ++ [newDescriptor s r]) s
  rw [List.map_append, List.sum_append, List.map_singleton, List.sum_singleton, writeUnits_newDescriptor] at hsum
  rw [List.length_append, List.length_append, List.length_append, List.length_singleton] at hheld
  rw [List.length_append, List.length_singleton] at hshort
  have hlength : (queueOf s k ++ [newDescriptor s r]).length ≤ (s.streams.get k).queueLimit.toNat := by
    rw [List.length_append, List.length_singleton]
    exact hlimit
  have hfree : freeDescriptors s = 128 - (allHeld s).length := rfl
  have hpool : freeUnits s = 384 - ((allHeld s).map Descriptor.writeUnits).sum := rfl
  have hqueued : queuedCount s k = (queueOf s k).length := rfl
  obtain ⟨hstore, hreserve, hsuffice⟩ := h
  have hdata := hstore.2.1
  change reserveShortfall s ≤ 128 - (allHeld s).length + s.store.pass.length at hsuffice
  rw [grantable] at hgrant
  split at hgrant <;> rw [decide_eq_true_eq] at hgrant
  all_goals
    refine ⟨⟨by omega, by omega, queuedCount_setQueue_le hstore hlength⟩, hreserve, ?_⟩
    change reserveShortfall (setQueue k _ s) ≤ 128 - (allHeld (setQueue k _ s)).length + s.store.pass.length
    omega

/-- R119, R120. The merge keeps what is held and leaves every descriptor to the pass queue. -/
theorem storeLaws_merge {moved : List Descriptor} {s t : State} (hmoved : moved.Perm (streamHeld s))
    (hstreams : t.streams = s.streams) (hqueues : t.store.queues = Table.replicate numStreams [])
    (hpass : t.store.pass = s.store.pass ++ moved) (h : StoreLaws s) : StoreLaws t := by
  obtain ⟨⟨hcount, hdata, -⟩, hreserve, -⟩ := h
  have hempty (k : StreamId) : queueOf t k = [] := by rw [queueOf, hqueues, Table.get_replicate]
  have hheld : allHeld t = s.store.pass ++ moved := by
    rw [allHeld, hpass, streamHeld, hqueues]
    rfl
  have hperm : (allHeld t).Perm (allHeld s) := hheld ▸ (hmoved.append_left _).trans List.perm_append_comm
  have hlength : (allHeld t).length = (allHeld s).length := hperm.length_eq
  have hown : (allHeld t).length = t.store.pass.length := by rw [hheld, hpass]
  refine ⟨⟨hlength.le.trans hcount, ?_, fun k => ?_⟩, by rwa [hstreams], ?_⟩
  · exact (hperm.map Descriptor.writeUnits).sum_eq.le.trans hdata
  · rw [queuedCount, hempty]
    exact Nat.zero_le _
  · have hfree : freeDescriptors t = 128 - (allHeld t).length := rfl
    simp only [hempty, List.length_nil, Nat.sub_zero, hstreams]
    omega

theorem Change.storeLaws {s t : State} (h : Change s t) (hs : StoreLaws s) : StoreLaws t := by
  cases h with
  | entries x _ h => exact hs.congr rfl rfl fun k => ⟨(h k).queueLimit, (h k).reserve⟩
  | toPass r _ _ hjudge => exact (storeLaws_toPass hjudge hs).congr rfl rfl fun _ => ⟨rfl, rfl⟩
  | toStream k r _ _ hjudge => exact (storeLaws_toStream hjudge hs).congr rfl rfl fun _ => ⟨rfl, rfl⟩
  | mark k q _ h =>
    have hlength : q.length = (queueOf s k).length := by simpa using congrArg List.length h
    have hunits : q.map Descriptor.writeUnits = (queueOf s k).map Descriptor.writeUnits := by
      have hmap := congrArg (List.map Descriptor.writeUnits) h
      rw [List.map_map, List.map_map] at hmap
      exact hmap
    exact storeLaws_setQueue hlength.le (hunits ▸ le_rfl) hs
  | send k d rest t _ hq _ =>
    refine (storeLaws_setQueue (k := k) (q := rest) ?_ ?_ hs).congr rfl rfl fun _ => ⟨rfl, rfl⟩
    · rw [hq]
      exact Nat.le_succ _
    · rw [hq]
      exact Nat.le_add_left ..
  | sendPass d rest t _ hq _ =>
    have hdata := hs.1.2.1
    have hcount := hs.1.1
    rw [allHeld, hq, List.length_append, List.length_cons] at hcount
    rw [allHeld, hq, List.map_append, List.sum_append, List.map_cons, List.sum_cons] at hdata
    refine (storeLaws_setPass (q := rest) (by omega) ?_ hs).congr rfl rfl fun _ => ⟨rfl, rfl⟩
    rw [List.map_append, List.sum_append]
    omega
  | close k _ _ _ =>
    refine hs.congr rfl rfl fun j => ?_
    change ((s.streams.set k _).get j).queueLimit = _ ∧ ((s.streams.set k _).get j).reserve = _
    rw [Table.get_set]
    split
    · next hkj => exact hkj ▸ ⟨rfl, rfl⟩
    · exact ⟨rfl, rfl⟩
  | write k e _ _ _ hlimit hreserve =>
    obtain ⟨⟨hcount, hdata, hlimits⟩, hsum, hshort⟩ := hs
    have hnew : reserveSum (s.streams.set k e) ≤ 128 ∧
        reserveShortfall (s.withStreams (s.streams.set k e)) ≤ freeDescriptors s + passCount s := by
      refine hreserve.elim (fun h => ?_) id
      have hsame : e.reserve = (s.streams.get k).reserve := h
      rw [reserveSum_of_eq hsame, reserveShortfall_of_eq hsame, Table.set_get_self]
      exact ⟨hsum, hshort⟩
    refine ⟨⟨hcount, hdata, fun j => ?_⟩, hnew⟩
    change queuedCount s j ≤ ((s.streams.set k e).get j).queueLimit.toNat
    rw [Table.get_set]
    split
    · next hkj =>
      subst hkj
      exact hlimit.elim (fun h => h ▸ hlimits k) id
    · exact hlimits j
  | flush k _ _ =>
    exact (storeLaws_setQueue (k := k) (q := []) (Nat.zero_le _) (Nat.zero_le _) hs).congr rfl rfl fun _ => ⟨rfl, rfl⟩
  | merge r moved _ hmoved _ _ => exact storeLaws_merge hmoved rfl rfl rfl hs
  | reset => exact ⟨storeLaw_reset, reserveLaw_reset⟩
  | _ => exact hs

/-- Settles O56: the store and the reserves, whose laws hold together. -/
theorem storeLawsAreKept : Obligations.StoreLawsAreKept :=
  keptByStep_of_changes (P := StoreLaws) (fun _ _ h hs => h.storeLaws hs)
    (powerOnReset_law fun _ _ => ⟨storeLaw_reset, reserveLaw_reset⟩) (fun _ _ hs => hs) fun _ _ hs => hs

/-! ### Where the upstream tags go -/

/-- R62. The upstream tag that an entry holds: that of an IN_FLIGHT one. -/
def Entry.tag : Entry → Option UpTag
  | .inFlight h => some h.upTag
  | _ => none

/-- The tag of the stalled request, if there is one. -/
def offeredTags (s : State) : List UpTag := s.port.offer.toList.map requestTag

/-- The tags of the responses emitted. -/
def answeredTags (s : State) : List UpTag := s.port.sent.map responseTag

theorem heldTags_eq (s : State) :
    heldTags s = (allHeld s).map Descriptor.upTag ++ s.table.cells.filterMap Entry.tag := by
  refine congrArg₂ (· ++ ·) rfl (List.filterMap_congr fun e _ => ?_)
  cases e <;> rfl

theorem tagsSeen_eq (s : State) : tagsSeen s = heldTags s ++ offeredTags s ++ answeredTags s := rfl

theorem heldTags_setQueue_perm (k : StreamId) (q : List Descriptor) (s : State) :
    ((queueOf s k).map Descriptor.upTag ++ heldTags (setQueue k q s)).Perm (q.map Descriptor.upTag ++ heldTags s) := by
  have h := ((allHeld_setQueue_perm k q s).map Descriptor.upTag).append_right (s.table.cells.filterMap Entry.tag)
  rw [List.map_append, List.map_append, List.append_assoc, List.append_assoc] at h
  rw [heldTags_eq, heldTags_eq]
  exact h

theorem heldTags_setPass_perm (q : List Descriptor) (s : State) :
    (s.store.pass.map Descriptor.upTag ++ heldTags (setPass q s)).Perm (q.map Descriptor.upTag ++ heldTags s) := by
  rw [heldTags_eq, heldTags_eq]
  refine List.perm_iff_count.2 fun a => ?_
  simp only [allHeld, List.map_append, List.count_append]
  change _ + (List.count a ((streamHeld s).map _) + List.count a (q.map _) + List.count a (s.table.cells.filterMap _)) = _
  omega

theorem heldTags_setEntry_perm (t : Tag) (e : Entry) (s : State) :
    ((s.table.get t).tag.toList ++ heldTags (setEntry t e s)).Perm (e.tag.toList ++ heldTags s) := by
  have h := (table_cons_set_perm s.table t e).filterMap Entry.tag
  have hcons (x : Entry) (l : List Entry) : (x :: l).filterMap Entry.tag = x.tag.toList ++ l.filterMap Entry.tag := by
    rw [List.filterMap_cons]
    cases x.tag <;> rfl
  rw [hcons, hcons] at h
  rw [heldTags_eq, heldTags_eq]
  refine List.perm_iff_count.2 fun a => ?_
  have hcount := h.count_eq a
  simp only [List.count_append] at hcount ⊢
  change _ + (List.count a ((allHeld s).map _) + List.count a ((s.table.set t e).cells.filterMap _)) = _
  omega

/-- What one change does to the tags: `come` enter from the offer place, `turned` leave it with an answer, `gone` leave
what is held with an answer. -/
structure TagFlow (s t : State) (come turned gone : List UpTag) : Prop where
  held : (gone ++ heldTags t).Perm (come ++ heldTags s)
  offered : offeredTags s = come ++ turned ++ offeredTags t
  answered : answeredTags t = answeredTags s ++ turned ++ gone
  fresh : (heldTags s).Nodup → (come ++ heldTags s).Nodup

theorem TagFlow.of_perm {s t : State} (hheld : (heldTags t).Perm (heldTags s)) (hport : t.port = s.port) :
    TagFlow s t [] [] [] := by
  refine ⟨hheld, ?_, ?_, id⟩
  · rw [offeredTags, offeredTags, hport]
    rfl
  · rw [answeredTags, answeredTags, hport, List.append_nil, List.append_nil]

theorem TagFlow.of_eq {s t : State} (hstore : t.store = s.store) (htable : t.table = s.table) (hport : t.port = s.port) :
    TagFlow s t [] [] [] :=
  .of_perm (.of_eq (by rw [heldTags, heldTags, allHeld, allHeld, streamHeld, streamHeld, hstore, htable])) hport

/-- R62. A request whose tag is not held may join what is held. -/
theorem nodup_cons_of_not_duplicate {s : State} {r : UpRequest} (h : duplicate s r = false) (hs : (heldTags s).Nodup) :
    (requestTag r :: heldTags s).Nodup := by
  refine List.nodup_cons.2 ⟨fun hmem => ?_, hs⟩
  exact Bool.false_ne_true (h.symm.trans (List.contains_iff_mem.2 hmem))

/-- R62, R71. An accepted request enters what is held under its own tag. -/
theorem TagFlow.of_accept {s t : State} {r : UpRequest} (hheld : (heldTags t).Perm (requestTag r :: heldTags s))
    (hoffer : s.port.offer = some r) (hport : t.port = { s.port with offer := none })
    (hdup : duplicate s r = false) : TagFlow s t [requestTag r] [] [] := by
  refine ⟨hheld, ?_, ?_, nodup_cons_of_not_duplicate hdup⟩
  · rw [offeredTags, offeredTags, hport, hoffer]
    rfl
  · rw [answeredTags, answeredTags, hport, List.append_nil, List.append_nil]

/-- R72, R102, R106. Answers for requests that were held. -/
theorem TagFlow.of_answer {s t : State} {gone : List UpTag} {answers : List UpResponse}
    (hheld : (gone ++ heldTags t).Perm (heldTags s)) (hport : t.port = { s.port with sent := s.port.sent ++ answers })
    (htags : answers.map responseTag = gone) : TagFlow s t [] [] gone := by
  refine ⟨hheld, ?_, ?_, id⟩
  · rw [offeredTags, offeredTags, hport]
    rfl
  · rw [answeredTags, answeredTags, hport, List.map_append, htags, List.append_nil]

theorem map_responseTag_refused (reason : Reason) (q : List Descriptor) :
    (q.map (refusedResponse reason)).map responseTag = q.map Descriptor.upTag := List.map_map

theorem tag_forget (e : Entry) : e.forget.tag = e.tag := by cases e <;> rfl

/-- R93, R125. The RESET command answers every queued request and keeps the table's tags. -/
theorem heldTags_reset_perm (s : State) :
    ((allHeld s).map Descriptor.upTag ++ heldTags (resetBlocks s)).Perm (heldTags s) := by
  rw [heldTags_eq, heldTags_eq]
  refine List.Perm.append_left _ (.of_eq ?_)
  change List.filterMap Entry.tag (s.table.cells.map Entry.forget) = _
  rw [List.filterMap_map]
  exact List.filterMap_congr fun e _ => tag_forget e

theorem Change.tagFlow {s t : State} (h : Change s t) : ∃ come turned gone, TagFlow s t come turned gone := by
  cases h with
  | refuse r x _ hoffer htag =>
    refine ⟨[], [requestTag r], [], .refl _, ?_, ?_, id⟩
    · rw [offeredTags, hoffer]
      rfl
    · simp [answeredTags, htag]
  | toPass r _ hoffer hjudge =>
    obtain ⟨-, -, hdup, -⟩ := judge_toPass hjudge
    refine ⟨_, _, _, .of_accept (r := r) ?_ hoffer rfl hdup⟩
    have h := heldTags_setPass_perm (s.store.pass ++ [newDescriptor s r]) s
    rw [List.map_append, List.append_assoc] at h
    exact (List.perm_append_left_iff _).1 h
  | toStream k r _ hoffer hjudge =>
    obtain ⟨-, -, hdup, -⟩ := judge_toStream hjudge
    refine ⟨_, _, _, .of_accept (r := r) ?_ hoffer rfl hdup⟩
    have h := heldTags_setQueue_perm k (queueOf s k ++ [newDescriptor s r]) s
    rw [List.map_append, List.append_assoc] at h
    exact (List.perm_append_left_iff _).1 h
  | mark k q _ hmark =>
    refine ⟨_, _, _, .of_perm ?_ rfl⟩
    have htags : q.map Descriptor.upTag = (queueOf s k).map Descriptor.upTag := by
      have hmap := congrArg (List.map Descriptor.upTag) hmark
      rw [List.map_map, List.map_map] at hmap
      exact hmap
    have h := heldTags_setQueue_perm k q s
    rw [htags] at h
    exact (List.perm_append_left_iff _).1 h
  | send k d rest t _ hq ht =>
    refine ⟨_, _, _, .of_perm ?_ rfl⟩
    have hqueue := heldTags_setQueue_perm k rest s
    have hentry := heldTags_setEntry_perm t (.inFlight (d.held (.stream k) s.timer.tick)) (setQueue k rest s)
    have hfree : (setQueue k rest s).table.get t = .free := ht
    rw [hfree] at hentry
    rw [hq] at hqueue
    refine List.Perm.trans hentry ((List.perm_append_left_iff (rest.map Descriptor.upTag)).1 ?_)
    exact List.Perm.trans List.perm_middle hqueue
  | sendPass d rest t _ hq ht =>
    refine ⟨_, _, _, .of_perm ?_ rfl⟩
    have hqueue := heldTags_setPass_perm rest s
    have hentry := heldTags_setEntry_perm t (.inFlight (d.held .pass s.timer.tick)) (setPass rest s)
    have hfree : (setPass rest s).table.get t = .free := ht
    rw [hfree] at hentry
    rw [hq] at hqueue
    refine List.Perm.trans hentry ((List.perm_append_left_iff (rest.map Descriptor.upTag)).1 ?_)
    exact List.Perm.trans List.perm_middle hqueue
  | answer t h e x _ ht he htag =>
    refine ⟨_, _, _, .of_answer (answers := [x]) (gone := [h.upTag]) ?_ rfl (by simp [htag])⟩
    have hentry := heldTags_setEntry_perm t e (emitUp x s)
    have hold : (emitUp x s).table.get t = .inFlight h := ht
    have hnew : e.tag = none := by rcases he with rfl | rfl <;> rfl
    rw [hold, hnew] at hentry
    exact hentry
  | discard t h _ ht =>
    refine ⟨_, _, _, .of_perm ?_ rfl⟩
    have hentry := heldTags_setEntry_perm t .free s
    rw [ht] at hentry
    exact hentry
  | flush k reason _ =>
    refine ⟨_, _, _, .of_answer (answers := (queueOf s k).map (refusedResponse reason)) ?_ rfl
      (map_responseTag_refused reason _)⟩
    exact heldTags_setQueue_perm k [] s
  | merge r moved _ hmoved _ _ =>
    refine ⟨_, _, _, .of_perm ?_ rfl⟩
    rw [heldTags_eq, heldTags_eq]
    refine List.Perm.append_right _ (List.Perm.map _ ?_)
    exact (hmoved.append_left s.store.pass).trans List.perm_append_comm
  | reset refused _ hrefused =>
    refine ⟨_, _, _, .of_answer (answers := refused.map (refusedResponse .reset)) ?_ rfl
      (map_responseTag_refused .reset _)⟩
    exact ((hrefused.map _).append_right _).trans (heldTags_reset_perm s)
  | _ => exact ⟨_, _, _, .of_eq rfl rfl rfl⟩

theorem TagFlow.tagsSeen_perm {s t : State} {come turned gone : List UpTag} (h : TagFlow s t come turned gone) :
    (tagsSeen t).Perm (tagsSeen s) := by
  refine List.perm_iff_count.2 fun a => ?_
  have hheld := h.held.count_eq a
  rw [tagsSeen_eq, tagsSeen_eq, h.offered, h.answered]
  simp only [List.count_append] at hheld ⊢
  omega

theorem TagFlow.tagLaw {s t : State} {come turned gone : List UpTag} (h : TagFlow s t come turned gone) (hs : TagLaw s) :
    TagLaw t := (h.held.nodup_iff.2 (h.fresh hs)).of_append_right

theorem Change.tagLaw {s t : State} (h : Change s t) (hs : TagLaw s) : TagLaw t := by
  obtain ⟨_, _, _, hflow⟩ := h.tagFlow
  exact hflow.tagLaw hs

theorem Changes.tagsSeen_perm {s t : State} (h : Changes s t) : (tagsSeen t).Perm (tagsSeen s) :=
  h.keep (P := fun u => (tagsSeen u).Perm (tagsSeen s))
    (fun _ _ hstep hu => by
      obtain ⟨_, _, _, hflow⟩ := hstep.tagFlow
      exact hflow.tagsSeen_perm.trans hu) (.refl _)

/-- R59, R151. An offer placed adds its tag. -/
theorem tagsSeen_setOffer {s : State} (h : s.port.offer = none) (r : UpRequest) :
    (tagsSeen (setOffer (some r) s)).Perm (requestTag r :: tagsSeen s) := by
  rw [tagsSeen_eq, tagsSeen_eq, offeredTags, offeredTags, h]
  refine List.perm_iff_count.2 fun a => ?_
  change List.count a (heldTags s ++ [requestTag r] ++ answeredTags s) = _
  simp only [Option.toList_none, List.map_nil, List.append_nil, List.count_append, List.count_cons, List.count_nil]
  omega

theorem heldTags_written_out (s : State) :
    heldTags s =
      ((((List.finRange 24).flatMap fun k => queueOf s k) ++ s.store.pass).map fun d => (d.initiator, d.transaction))
        ++ (List.finRange 48).filterMap fun t =>
          match s.table.get t with | .inFlight h => some (h.initiator, h.transaction) | _ => none := by
  rw [heldTags_eq, allHeld, streamHeld_eq_flatMap, s.table.cells_eq_ofFn, List.ofFn_eq_map, List.filterMap_map]
  refine congrArg₂ (· ++ ·) rfl (List.filterMap_congr fun t _ => ?_)
  rw [Function.comp_apply]
  cases s.table.get t <;> rfl

/-- Settles O60: each change moves tags between what is held, what is offered and what is answered. -/
theorem requestsAreConserved : Obligations.RequestsAreConserved :=
  ⟨fun _ _ _ hexec hreset hoffer => (exec_changes hexec hreset hoffer).tagsSeen_perm,
    fun _ _ _ _ hempty hexec =>
      (exec_requestOffer_changes hempty hexec).tagsSeen_perm.trans (tagsSeen_setOffer hempty _),
    heldTags_written_out⟩

/-! ### The queues and the lengths -/

theorem Change.queueLaw {s t : State} (h : Change s t) (hs : QueueLaw s) : QueueLaw t := by
  obtain ⟨hstreams, hpass⟩ := hs
  cases h with
  | toPass r _ _ hjudge =>
    obtain ⟨hmode, -⟩ := judge_toPass hjudge
    refine ⟨hstreams, fun h => ?_⟩
    change s.ctl.mode = _ ∨ (s.ctl.mode = _ ∨ s.ctl.mode = _) ∧ _ at h
    simp [hmode] at h
  | toStream k r _ _ hjudge =>
    obtain ⟨hmode, -⟩ := judge_toStream hjudge
    refine ⟨fun h => ?_, hpass⟩
    change s.ctl.mode = _ ∨ (s.ctl.mode = _ ∨ s.ctl.mode = _) ∧ _ at h
    rcases hmode with hmode | hmode <;> simp [hmode] at h
  | mark k q _ hmark =>
    refine ⟨fun h j => ?_, hpass⟩
    rw [queueOf_setQueue]
    split
    · rw [hstreams h k] at hmark
      exact List.map_eq_nil_iff.1 hmark
    · exact hstreams h j
  | send k d rest t _ hq _ =>
    refine ⟨fun h j => ?_, hpass⟩
    have hempty := hstreams h k
    rw [hq] at hempty
    cases hempty
  | sendPass d rest t _ hq _ =>
    refine ⟨hstreams, fun h => ?_⟩
    have hempty := hpass h
    rw [hq] at hempty
    cases hempty
  | flush k _ _ =>
    refine ⟨fun h j => ?_, hpass⟩
    change queueOf (setQueue k [] s) j = []
    rw [queueOf_setQueue]
    split
    · rfl
    · exact hstreams h j
  | merge r moved _ _ hmode _ =>
    refine ⟨fun _ => Table.get_replicate _, fun h => ?_⟩
    change r.ctl.mode = _ ∨ (r.ctl.mode = _ ∨ r.ctl.mode = _) ∧ _ at h
    simp [hmode] at h
  | regime r _ _ hqueue => exact hqueue ⟨hstreams, hpass⟩
  | reset => exact ⟨fun _ => Table.get_replicate _, fun _ => rfl⟩
  | _ => exact ⟨hstreams, hpass⟩

/-- R61. A length within the bounds of a request. -/
def lengthOk (n : Nat) : Prop := 1 ≤ n ∧ n ≤ 8

/-- R98. The length that an entry holds is within the bounds. -/
def Entry.lengthOk : Entry → Prop
  | .free => True
  | .inFlight h | .orphaned h => Machine.lengthOk h.length

theorem lengthLaw_iff (s : State) :
    LengthLaw s ↔ (∀ d ∈ allHeld s, lengthOk d.length) ∧ ∀ t, (s.table.get t).lengthOk := by
  have h (t : Tag) :
      (match s.table.get t with
        | .free => True
        | .inFlight h | .orphaned h => 1 ≤ h.length ∧ h.length ≤ 8) ↔ (s.table.get t).lengthOk := by
    cases s.table.get t <;> rfl
  exact and_congr Iff.rfl (forall_congr' h)

theorem lengthOk_of_not_malformed {r : UpRequest} (h : malformed r = false) : lengthOk r.length := by
  simp only [malformed, Bool.or_eq_false_iff, decide_eq_false_iff_not, not_lt] at h
  obtain ⟨⟨hzero, hlong⟩, -⟩ := h
  exact ⟨Nat.one_le_iff_ne_zero.2 hzero, hlong⟩

theorem Change.lengthLaw {s t : State} (h : Change s t) (hs : LengthLaw s) : LengthLaw t := by
  rw [lengthLaw_iff] at hs ⊢
  obtain ⟨hheld, htable⟩ := hs
  have hqueue (k : StreamId) {d : Descriptor} (hd : d ∈ queueOf s k) : lengthOk d.length :=
    hheld d ((queueOf_sublist_allHeld s k).subset hd)
  have hpassed {d : Descriptor} (hd : d ∈ s.store.pass) : lengthOk d.length := hheld d (List.mem_append_right _ hd)
  have hset {k : StreamId} {q : List Descriptor} (hq : ∀ d ∈ q, lengthOk d.length) :
      ∀ d ∈ allHeld (setQueue k q s), lengthOk d.length := fun d hd =>
    (List.mem_append.1 ((allHeld_setQueue_perm k q s).subset (List.mem_append_right _ hd))).elim (hq d) (hheld d)
  have hpass {q : List Descriptor} (hq : ∀ d ∈ q, lengthOk d.length) : ∀ d ∈ allHeld (setPass q s), lengthOk d.length :=
    fun d hd => (List.mem_append.1 hd).elim (fun h => hheld d (List.mem_append_left _ h)) (hq d)
  have hentry {t : Tag} {e : Entry} (he : e.lengthOk) (u : Tag) : ((s.table.set t e).get u).lengthOk := by
    rw [Table.get_set]
    split
    · exact he
    · exact htable u
  cases h with
  | toPass r _ _ hjudge =>
    obtain ⟨-, hform, -⟩ := judge_toPass hjudge
    refine ⟨hpass (q := s.store.pass ++ [newDescriptor s r]) fun d hd => ?_, htable⟩
    obtain hd | hd := List.mem_append.1 hd
    · exact hpassed hd
    · rw [List.mem_singleton.1 hd]
      exact lengthOk_of_not_malformed hform
  | toStream k r _ _ hjudge =>
    obtain ⟨-, hform, -⟩ := judge_toStream hjudge
    refine ⟨hset (k := k) (q := queueOf s k ++ [newDescriptor s r]) fun d hd => ?_, htable⟩
    obtain hd | hd := List.mem_append.1 hd
    · exact hqueue k hd
    · rw [List.mem_singleton.1 hd]
      exact lengthOk_of_not_malformed hform
  | mark k q _ hmark =>
    refine ⟨hset fun d hd => ?_, htable⟩
    have hmem : d.unmarked ∈ (queueOf s k).map Descriptor.unmarked := hmark ▸ List.mem_map_of_mem hd
    obtain ⟨o, ho, hsame⟩ := List.mem_map.1 hmem
    have hlength : o.unmarked.length = d.unmarked.length := congrArg Descriptor.length hsame
    change o.length = d.length at hlength
    exact hlength ▸ hqueue k ho
  | send k d rest t _ hq _ =>
    have hmem {o : Descriptor} (ho : o ∈ d :: rest) : lengthOk o.length := hqueue k (hq ▸ ho)
    exact ⟨hset (k := k) fun o ho => hmem (List.mem_cons_of_mem _ ho), hentry (hmem List.mem_cons_self)⟩
  | sendPass d rest t _ hq _ =>
    have hmem {o : Descriptor} (ho : o ∈ d :: rest) : lengthOk o.length := hpassed (hq ▸ ho)
    exact ⟨hpass fun o ho => hmem (List.mem_cons_of_mem _ ho), hentry (hmem List.mem_cons_self)⟩
  | answer t h e x _ ht he _ =>
    refine ⟨hheld, hentry ?_⟩
    have hold := htable t
    rw [ht] at hold
    rcases he with rfl | rfl
    · trivial
    · exact hold
  | discard t h _ _ => exact ⟨hheld, hentry trivial⟩
  | flush k _ _ => exact ⟨hset (k := k) (q := []) fun d hd => absurd hd List.not_mem_nil, htable⟩
  | merge r moved _ hmoved _ _ =>
    refine ⟨fun d hd => hheld d ?_, htable⟩
    have hperm : (s.store.pass ++ moved).Perm (allHeld s) := (hmoved.append_left _).trans List.perm_append_comm
    exact hperm.subset hd
  | reset refused _ _ =>
    refine ⟨fun d hd => absurd hd List.not_mem_nil, fun t => ?_⟩
    change ((s.table.map Entry.forget).get t).lengthOk
    rw [Table.get_map]
    have hold := htable t
    cases he : s.table.get t <;> rw [he] at hold <;> exact hold
  | _ => exact ⟨hheld, htable⟩

/-- Settles O59: the tags, the queues and the lengths, law by law. -/
theorem requestLawsAreKept : Obligations.RequestLawsAreKept :=
  ⟨keptByStep_of_changes (fun _ _ h hs => h.tagLaw hs) (powerOnReset_law fun _ _ => tagLaw_reset)
      (fun _ _ hs => hs) fun _ _ hs => hs,
    keptByStep_of_changes (fun _ _ h hs => h.queueLaw hs) (powerOnReset_law fun _ _ => queueLaw_reset)
      (fun _ _ hs => hs) fun _ _ hs => hs,
    keptByStep_of_changes (fun _ _ h hs => h.lengthLaw hs) (powerOnReset_law fun _ _ => lengthLaw_reset)
      (fun _ _ hs => hs) fun _ _ hs => hs⟩

/-! ### The link -/

theorem wholeFrame_responseFrame (st : Status) (seq : Byte) {payload : List Byte} (h : payload.length ≤ 128) :
    wholeFrame (responseFrame st seq payload) = true := by
  have hbyte : ((responseFrame st seq payload).getD 2 0#8).toNat = payload.length := by
    change (BitVec.ofNat 8 payload.length).toNat = payload.length
    rw [BitVec.toNat_ofNat]
    omega
  have hlength : (responseFrame st seq payload).length = payload.length + 4 := by simp [responseFrame]
  rw [wholeFrame, hbyte, hlength]
  simp [h]

theorem length_flatMap_slotBytes (es : List SlotEntry) : (es.flatMap SlotEntry.bytes).length = 5 * es.length := by
  induction es with
  | nil => rfl
  | cons e es ih =>
    rw [List.flatMap_cons, List.length_append, ih, List.length_cons]
    change 5 + _ = _
    omega

theorem length_summary (b : Bank) : b.summary.length = 4 := rfl

theorem length_snapshotBytes_le (b : Snapshot) : b.bytes.length ≤ 73 := by
  rcases b with ⟨k | g, _, _⟩
  · exact le_rfl
  · exact (by decide : 57 ≤ 73)

/-- What the link needs of a command's rule: it leaves the link, and its payload fits a frame. -/
def Answers (run : State → State × Answer) : Prop :=
  ∀ s, (run s).1.link = s.link ∧ (run s).2.payload.length ≤ 128

theorem editStaged_payload_le (b : Bank) (s : State) : (editStaged b s).2.payload.length ≤ 128 := by
  rw [editStaged]
  split
  · exact Nat.zero_le _
  · exact (by decide : 4 ≤ 128)

theorem answers_status (args : List Byte) : Answers (cmdStatus args) := fun s => by
  refine ⟨cmdStatus_link args s, ?_⟩
  unfold cmdStatus
  split
  · exact (by decide : 21 ≤ 128)
  · exact Nat.zero_le _

theorem answers_readSettings (args : List Byte) : Answers (cmdReadSettings args) := fun s => by
  refine ⟨cmdReadSettings_link args s, ?_⟩
  unfold cmdReadSettings
  split
  · exact (by decide : 13 ≤ 128)
  · exact Nat.zero_le _

theorem answers_writeSettings (args : List Byte) : Answers (cmdWriteSettings args) := fun s => by
  refine ⟨cmdWriteSettings_link args s, ?_⟩
  unfold cmdWriteSettings
  split
  · exact Nat.zero_le _
  · split
    · exact Nat.zero_le _
    · exact (by decide : 13 ≤ 128)

theorem answers_readStream (args : List Byte) : Answers (cmdReadStream args) := fun s => by
  refine ⟨cmdReadStream_link args s, ?_⟩
  unfold cmdReadStream
  split
  · split
    · exact (by decide : 35 ≤ 128)
    · exact Nat.zero_le _
  · exact Nat.zero_le _

theorem answers_writeStream (args : List Byte) : Answers (cmdWriteStream args) := fun s => by
  refine ⟨cmdWriteStream_link args s, ?_⟩
  unfold cmdWriteStream
  split
  · exact Nat.zero_le _
  · split
    · exact Nat.zero_le _
    · exact (by decide : 35 ≤ 128)

theorem answers_setStreamState (args : List Byte) : Answers (cmdSetStreamState args) := fun s => by
  refine ⟨cmdSetStreamState_link args s, ?_⟩
  unfold cmdSetStreamState
  split
  · split
    · split
      · exact Nat.zero_le _
      · exact (by decide : 1 ≤ 128)
    · exact Nat.zero_le _
  · exact Nat.zero_le _

theorem answers_flushStream (args : List Byte) : Answers (cmdFlushStream args) := fun s => by
  refine ⟨cmdFlushStream_link args s, ?_⟩
  unfold cmdFlushStream
  split
  · split
    · exact (by decide : 1 ≤ 128)
    · exact Nat.zero_le _
  · exact Nat.zero_le _

theorem answers_clearFlags (args : List Byte) : Answers (cmdClearFlags args) := fun s => by
  refine ⟨cmdClearFlags_link args s, ?_⟩
  have hbyte (n : Nat) (t : State) : (accepted [natByte n] t).2.payload.length ≤ 128 := (by decide : 1 ≤ 128)
  unfold cmdClearFlags
  split
  · split
    · exact Nat.zero_le _
    · split
      · split
        · exact Nat.zero_le _
        · exact hbyte ..
      · split
        · exact hbyte ..
        · split
          · split
            · exact Nat.zero_le _
            · exact hbyte ..
          · exact Nat.zero_le _
  · exact Nat.zero_le _

theorem slotRange_iff (first count : Byte) :
    slotRange first count = true ↔
      first.toNat ≤ 47 ∧ 1 ≤ count.toNat ∧ count.toNat ≤ 16 ∧ first.toNat + count.toNat ≤ 48 := by
  simp [slotRange, numSlots, and_assoc]

theorem answers_readSlots (args : List Byte) : Answers (cmdReadSlots args) := fun s => by
  refine ⟨cmdReadSlots_link args s, ?_⟩
  unfold cmdReadSlots
  split
  · next first count =>
    split
    · split
      · next hrange =>
        obtain ⟨-, -, hcount, -⟩ := (slotRange_iff first count).1 hrange
        simp only [accepted, List.length_append, length_summary, length_flatMap_slotBytes, List.length_take]
        omega
      · exact Nat.zero_le _
    · exact Nat.zero_le _
  · exact Nat.zero_le _

theorem answers_writeSlots (args : List Byte) : Answers (cmdWriteSlots args) := fun s => by
  refine ⟨cmdWriteSlots_link args s, ?_⟩
  unfold cmdWriteSlots
  split
  · split
    · split
      · exact editStaged_payload_le ..
      · exact Nat.zero_le _
    · exact Nat.zero_le _
  · exact Nat.zero_le _

theorem answers_setSlotCount (args : List Byte) : Answers (cmdSetSlotCount args) := fun s => by
  refine ⟨cmdSetSlotCount_link args s, ?_⟩
  unfold cmdSetSlotCount
  split
  · split
    · exact editStaged_payload_le ..
    · exact Nat.zero_le _
  · exact Nat.zero_le _

theorem answers_revertStaged (args : List Byte) : Answers (cmdRevertStaged args) := fun s => by
  refine ⟨cmdRevertStaged_link args s, ?_⟩
  unfold cmdRevertStaged
  split
  · exact editStaged_payload_le ..
  · exact Nat.zero_le _

theorem answers_commit (args : List Byte) : Answers (cmdCommit args) := fun s => by
  refine ⟨cmdCommit_link args s, ?_⟩
  unfold cmdCommit
  split
  · split
    · exact Nat.zero_le _
    · split
      · exact (by decide : 2 ≤ 128)
      · split
        · exact (by decide : 4 ≤ 128)
        · exact (by decide : 4 ≤ 128)
  · exact Nat.zero_le _

theorem answers_engage (args : List Byte) : Answers (cmdEngage args) := fun s => by
  refine ⟨cmdEngage_link args s, ?_⟩
  unfold cmdEngage
  split
  · split
    · exact Nat.zero_le _
    · split
      · rw [engage]
        split
        · exact Nat.zero_le _
        · exact Nat.zero_le _
      · exact Nat.zero_le _
  · exact Nat.zero_le _

theorem answers_disengage (args : List Byte) : Answers (cmdDisengage args) := fun s => by
  refine ⟨cmdDisengage_link args s, ?_⟩
  have hbyte (n : Nat) (t : State) : (accepted [natByte n] t).2.payload.length ≤ 128 := (by decide : 1 ≤ 128)
  unfold cmdDisengage
  split
  · split
    · exact hbyte ..
    · exact hbyte ..
    · exact hbyte ..
    · exact Nat.zero_le _
    · exact Nat.zero_le _
  · exact Nat.zero_le _

theorem quiesce_payload_le (back : ReturnMode) (s : State) : (quiesce back s).2.payload.length ≤ 128 := by
  rw [quiesce]
  split
  · exact Nat.zero_le _
  · exact Nat.zero_le _

theorem answers_quiesce (args : List Byte) : Answers (cmdQuiesce args) := fun s => by
  refine ⟨cmdQuiesce_link args s, ?_⟩
  unfold cmdQuiesce
  split
  · split
    · exact Nat.zero_le _
    · split
      · exact Nat.zero_le _
      · split
        · exact quiesce_payload_le ..
        · exact quiesce_payload_le ..
        · exact Nat.zero_le _
        · exact Nat.zero_le _
        · exact Nat.zero_le _
  · exact Nat.zero_le _

theorem answers_resume (args : List Byte) : Answers (cmdResume args) := fun s => by
  refine ⟨cmdResume_link args s, ?_⟩
  unfold cmdResume
  split
  · split
    · exact (by decide : 1 ≤ 128)
    · exact (by decide : 1 ≤ 128)
    · exact Nat.zero_le _
    · exact Nat.zero_le _
    · exact Nat.zero_le _
  · exact Nat.zero_le _

theorem answers_snapshot (args : List Byte) : Answers (cmdSnapshot args) := fun s => by
  refine ⟨cmdSnapshot_link args s, ?_⟩
  unfold cmdSnapshot
  split
  · split
    · exact (by decide : 9 ≤ 128)
    · exact Nat.zero_le _
  · exact Nat.zero_le _

theorem answers_readSnapshot (args : List Byte) : Answers (cmdReadSnapshot args) := fun s => by
  refine ⟨cmdReadSnapshot_link args s, ?_⟩
  unfold cmdReadSnapshot
  split
  · split
    · next b _ => exact (length_snapshotBytes_le b).trans (by decide)
    · exact Nat.zero_le _
  · exact Nat.zero_le _

theorem answers_readEvents (args : List Byte) : Answers (cmdReadEvents args) := fun s => by
  refine ⟨cmdReadEvents_link args s, ?_⟩
  unfold cmdReadEvents
  split
  · split
    · next hcount =>
      dsimp only
      split
      · exact Nat.zero_le _
      · simp only [accepted, List.length_append, length_flatMap_bytes, List.length_take, List.length_cons,
          List.length_nil]
        omega
    · exact Nat.zero_le _
  · exact Nat.zero_le _

theorem answers_reset (args : List Byte) : Answers (cmdReset args) := fun s => by
  refine ⟨cmdReset_link args s, ?_⟩
  unfold cmdReset
  split
  · exact (by decide : 1 ≤ 128)
  · exact Nat.zero_le _

/-- The link law reads the link alone. -/
theorem LinkLaw.congr {s t : State} (h : t.link = s.link) (hs : LinkLaw s) : LinkLaw t := by
  simpa only [LinkLaw, h] using hs

/-- R164. What is placed is a whole frame, and so is what it replaces. -/
theorem place_whole {l : Link} (hresponse : (l.response.all fun r => wholeFrame r.frame) = true)
    (hbuffer : l.buffer.all wholeFrame = true) (hretained : l.retained.all wholeFrame = true) :
    l.place.response = none ∧ l.place.buffer.all wholeFrame = true ∧ l.place.retained.all wholeFrame = true := by
  rw [Link.place]
  cases hr : l.response with
  | none => exact ⟨hr, hbuffer, hretained⟩
  | some r =>
    rw [hr] at hresponse
    refine ⟨rfl, hresponse, ?_⟩
    dsimp only
    split
    · exact hresponse
    · exact hretained

/-- R159, R162. A decided command leaves the receiver WORKING with a whole frame to place. -/
theorem linkLaw_decide {s t : State} {r : Reply} (hs : LinkLaw s) (hframe : wholeFrame r.frame = true)
    (h : t.link = s.link.place.decide r) : LinkLaw t := by
  obtain ⟨-, -, hresponse, hbuffer, hretained, -⟩ := hs
  obtain ⟨-, hplaced, hkept⟩ := place_whole hresponse hbuffer hretained
  rw [LinkLaw, h]
  exact ⟨fun _ => ⟨rfl, rfl⟩, nofun, hframe, hplaced, hkept, .inr rfl⟩

theorem linkLaw_respond {run : State → State × Answer} (hrun : Answers run) (seq : Byte) {s : State} (hs : LinkLaw s) :
    LinkLaw (respond seq true run s) := by
  obtain ⟨hlink, hpayload⟩ := hrun (placeResponse s)
  refine linkLaw_decide (r := ⟨_, true⟩) hs
    (wholeFrame_responseFrame (run (placeResponse s)).2.status seq hpayload) ?_
  rw [respond_link, hlink]
  rfl

theorem linkLaw_linkCrc (seq : Byte) {s : State} (hs : LinkLaw s) : LinkLaw (linkCrc seq s) :=
  linkLaw_respond (fun _ => ⟨rfl, Nat.zero_le _⟩) seq hs

theorem linkLaw_linkLength (seq : Byte) {s : State} (hs : LinkLaw s) : LinkLaw (linkLength seq s) :=
  linkLaw_respond (fun _ => ⟨rfl, Nat.zero_le _⟩) seq hs

theorem linkLaw_badCommand (seq : Byte) {s : State} (hs : LinkLaw s) : LinkLaw (badCommand seq s) :=
  linkLaw_respond (fun _ => ⟨rfl, Nat.zero_le _⟩) seq hs

theorem repeatFrame_whole (seq : Byte) (args : List Byte) {l : Link} (h : l.retained.all wholeFrame = true) :
    wholeFrame (repeatFrame seq args l) = true := by
  unfold repeatFrame
  split
  · next hlast =>
    rw [hlast] at h
    exact h
  · exact wholeFrame_responseFrame _ _ (Nat.zero_le _)
  · exact wholeFrame_responseFrame _ _ (Nat.zero_le _)

theorem linkLaw_repeatLast (seq : Byte) (args : List Byte) {s : State} (hs : LinkLaw s) :
    LinkLaw (repeatLast seq args s) := by
  have h := hs
  obtain ⟨-, -, hresponse, hbuffer, hretained, -⟩ := h
  obtain ⟨-, -, hkept⟩ := place_whole hresponse hbuffer hretained
  exact linkLaw_decide hs (repeatFrame_whole seq args (l := s.link.place) hkept) rfl

theorem linkLaw_takeCommand (c : LinkCommand) (seq : Byte) (args : List Byte) {s : State} (hs : LinkLaw s) :
    LinkLaw (takeCommand c seq args s) := by
  cases c with
  | status => exact linkLaw_respond (answers_status args) seq hs
  | readSettings => exact linkLaw_respond (answers_readSettings args) seq hs
  | writeSettings => exact linkLaw_respond (answers_writeSettings args) seq hs
  | readStream => exact linkLaw_respond (answers_readStream args) seq hs
  | writeStream => exact linkLaw_respond (answers_writeStream args) seq hs
  | setStreamState => exact linkLaw_respond (answers_setStreamState args) seq hs
  | flushStream => exact linkLaw_respond (answers_flushStream args) seq hs
  | clearFlags => exact linkLaw_respond (answers_clearFlags args) seq hs
  | readSlots => exact linkLaw_respond (answers_readSlots args) seq hs
  | writeSlots => exact linkLaw_respond (answers_writeSlots args) seq hs
  | setSlotCount => exact linkLaw_respond (answers_setSlotCount args) seq hs
  | commit => exact linkLaw_respond (answers_commit args) seq hs
  | engage => exact linkLaw_respond (answers_engage args) seq hs
  | disengage => exact linkLaw_respond (answers_disengage args) seq hs
  | quiesce => exact linkLaw_respond (answers_quiesce args) seq hs
  | resume => exact linkLaw_respond (answers_resume args) seq hs
  | snapshot => exact linkLaw_respond (answers_snapshot args) seq hs
  | readSnapshot => exact linkLaw_respond (answers_readSnapshot args) seq hs
  | readEvents => exact linkLaw_respond (answers_readEvents args) seq hs
  | reset => exact linkLaw_respond (answers_reset args) seq hs
  | repeatLast => exact linkLaw_repeatLast seq args hs
  | revertStaged => exact linkLaw_respond (answers_revertStaged args) seq hs

/-- R159. Outside WORKING no response waits. -/
theorem LinkLaw.response_none {s : State} (hs : LinkLaw s) (h : s.link.receiver ≠ .working ∨ s.link.mrdy = true) :
    s.link.response = none := by
  obtain ⟨hwaits, -⟩ := hs
  cases hr : s.link.response with
  | none => rfl
  | some r =>
    rw [hr] at hwaits
    obtain ⟨hworking, hlow⟩ := hwaits rfl
    rcases h with h | h
    · exact absurd hworking h
    · rw [hlow] at h
      cases h

theorem linkLaw_receiveByte {bytes : List Byte} (b : Byte) {s : State} (hreceiver : s.link.receiver = .receiving bytes)
    (hs : LinkLaw s) : LinkLaw (receiveByte (bytes ++ [b]) s) := by
  rw [receiveByte]
  split
  · next hincomplete =>
    have hnone := hs.response_none (.inl (by rw [hreceiver]; exact nofun))
    obtain ⟨-, hmrdy, hresponse, hbuffer, hretained, hreceived⟩ := hs
    rw [hreceiver] at hreceived
    refine ⟨fun h => ?_, hmrdy, hresponse, hbuffer, hretained, hreceived.1, hincomplete⟩
    rw [State.withLink_link, hnone] at h
    cases h
  · exact linkLaw_linkLength _ hs
  · exact linkLaw_linkCrc _ hs
  · exact linkLaw_badCommand _ hs
  · exact linkLaw_takeCommand _ _ _ hs

/-- R161. A whole frame has at least four bytes. -/
theorem length_of_whole {f : List Byte} (h : wholeFrame f = true) : 4 ≤ f.length := by
  rw [wholeFrame, Bool.and_eq_true, beq_iff_eq] at h
  omega

theorem linkLaw_byteBoundary {b : Byte} {s t : State} (hs : LinkLaw s) (h : exec (.byteBoundary b) s = .next t) :
    LinkLaw t := by
  simp only [exec, execByteBoundary] at h
  split at h
  · next bytes hreceiver =>
    rw [← Host.Outcome.next.inj h]
    exact linkLaw_receiveByte b hreceiver hs
  · next hreceiver =>
    rw [← Host.Outcome.next.inj h]
    split
    · next hready =>
      have hnone := hs.response_none (.inr hready)
      obtain ⟨-, hmrdy, hresponse, hbuffer, hretained, -⟩ := hs
      refine ⟨fun h => ?_, hmrdy, hresponse, hbuffer, hretained, hready, ?_⟩
      · rw [State.withLink_link, hnone] at h
        cases h
      · change 0 < (s.link.buffer.getD []).length
        have hfull := hmrdy hready
        cases hframe : s.link.buffer with
        | none =>
          rw [hframe] at hfull
          cases hfull
        | some f =>
          rw [hframe] at hbuffer
          exact Nat.lt_of_lt_of_le (by decide) (length_of_whole hbuffer)
    · exact hs
  · next p hreceiver =>
    rw [← Host.Outcome.next.inj h]
    have hnone := hs.response_none (.inl (by rw [hreceiver]; exact nofun))
    obtain ⟨-, hmrdy, hresponse, hbuffer, hretained, hposition⟩ := hs
    rw [hreceiver] at hposition
    rw [LinkLaw, State.withLink_link, Link.shiftOut]
    split
    · next hnext =>
      refine ⟨fun h => ?_, hmrdy, hresponse, hbuffer, hretained, hposition.1, hnext⟩
      rw [hnone] at h
      cases h
    · refine ⟨fun h => ?_, hmrdy, hresponse, hbuffer, hretained, hposition.1⟩
      rw [hnone] at h
      cases h
  · rw [← Host.Outcome.next.inj h]
    exact hs
  · rw [← Host.Outcome.next.inj h]
    exact hs

theorem linkLaw_mselAssertion {s t : State} (hs : LinkLaw s) (h : exec .mselAssertion s = .next t) : LinkLaw t := by
  simp only [exec, execMselAssertion] at h
  split at h <;> rw [← Host.Outcome.next.inj h]
  · next hidle =>
    have hnone := hs.response_none (.inl (by rw [hidle]; exact nofun))
    obtain ⟨-, -, hresponse, hbuffer, hretained, -⟩ := hs
    refine ⟨fun h => ?_, nofun, hresponse, hbuffer, hretained, rfl, rfl⟩
    rw [State.withLink_link, hnone] at h
    cases h
  all_goals exact hs

/-- R163. A deselection of a link without a waiting response. -/
theorem linkLaw_deselect {t : State} {l : Link} (hnone : l.response = none) (hbuffer : l.buffer.all wholeFrame = true)
    (hretained : l.retained.all wholeFrame = true) (h : t.link = l.deselect) : LinkLaw t := by
  rw [LinkLaw, h]
  refine ⟨fun h => ?_, nofun, ?_, hbuffer, hretained, rfl⟩
  · rw [Link.deselect, hnone] at h
    cases h
  · rw [Link.deselect, hnone]
    rfl

theorem linkLaw_mselDeassertion {s t : State} (hs : LinkLaw s) (h : exec .mselDeassertion s = .next t) : LinkLaw t := by
  have hreceiving {bytes : List Byte} (hr : s.link.receiver = .receiving bytes) : s.link.response = none :=
    hs.response_none (.inl (by rw [hr]; exact nofun))
  have hlaw := hs
  obtain ⟨-, -, hresponse, hbuffer, hretained, -⟩ := hlaw
  obtain ⟨hnone, hplaced, hkept⟩ := place_whole hresponse hbuffer hretained
  simp only [exec, execMselDeassertion] at h
  split at h <;> rw [← Host.Outcome.next.inj h]
  · exact hs
  · next hr => exact linkLaw_deselect (hreceiving hr) hbuffer hretained rfl
  · next hr => exact linkLaw_deselect (hreceiving hr) hbuffer hretained rfl
  all_goals exact linkLaw_deselect hnone hplaced hkept rfl

theorem linkLaw_responseFrameReady {s t : State} (hs : LinkLaw s) (h : exec .responseFrameReady s = .next t) :
    LinkLaw t := by
  simp only [exec, execResponseFrameReady] at h
  split at h <;> rw [← Host.Outcome.next.inj h]
  · next r hr =>
    obtain ⟨hwaits, -, hresponse, hbuffer, hretained, -⟩ := hs
    obtain ⟨hnone, hplaced, hkept⟩ := place_whole hresponse hbuffer hretained
    have hworking : s.link.place.receiver = .working := by
      rw [hr] at hwaits
      rw [Link.place, hr]
      exact (hwaits rfl).1
    have hfull : s.link.place.buffer.isSome = true := by rw [Link.place, hr]; rfl
    refine ⟨fun h => ?_, fun _ => hfull, ?_, hplaced, hkept, ?_⟩
    · rw [State.withLink_link, hnone] at h
      cases h
    · rw [State.withLink_link, hnone]
      rfl
    · rw [State.withLink_link, hworking]
      exact .inl rfl
  · exact hs

theorem exec_linkLaw {c : Instr} {s t : State} (hs : LinkLaw s) (h : exec c s = .next t) : LinkLaw t := by
  have hkeep (h : t.link = s.link) : LinkLaw t := hs.congr h
  have hlink (l : LinkCommand) (seq : Byte) (args : List Byte) (h : exec (l.instr seq args) s = .next t) :
      LinkLaw t := by
    rw [exec_instr] at h
    rw [← Host.Outcome.next.inj h]
    exact linkLaw_takeCommand l seq args hs
  cases c with
  | powerOnReset => exact powerOnReset_law (P := LinkLaw) (fun _ _ => linkLaw_reset) s t h
  | tick fsync =>
    rw [exec_tick] at h
    exact hkeep (by rw [← Host.Outcome.next.inj h, advance_link, settle_link])
  | slotEnd => exact hkeep (by rw [← Host.Outcome.next.inj h, slotEndIfDue_link])
  | commitCompletion =>
    refine hkeep ?_
    rw [← Host.Outcome.next.inj h]
    split
    · dsimp only
      split
      · exact frameEvent_link s
      · rfl
    · rfl
  | fsyncEdge level =>
    refine hkeep ?_
    rw [← Host.Outcome.next.inj h]
    split
    · rw [judgeSample_link, State.withTimer_link]
    · rfl
  | syncQualification => exact hkeep (by rw [← Host.Outcome.next.inj h, qualifyIfDue_link])
  | syncTimeoutExpiry => exact hkeep (by rw [← Host.Outcome.next.inj h, expireSyncIfDue_link])
  | requestOffer header data =>
    refine hkeep ?_
    cases hoffer : s.port.offer with
    | none =>
      rw [exec_requestOffer_of_empty hoffer] at h
      rw [← Host.Outcome.next.inj h, evaluate_link]
    | some r =>
      simp only [exec, execRequestOffer, hoffer] at h
      rw [← Host.Outcome.next.inj h]
  | deadlineCrossing => exact hkeep (by rw [← Host.Outcome.next.inj h, crossOldest_link])
  | dpReady => exact hkeep (by rw [← Host.Outcome.next.inj h, State.withDp_link])
  | release => exact hkeep (by rw [← Host.Outcome.next.inj h, releaseIfDue_link])
  | engagementCompletion =>
    refine hkeep ?_
    rw [← Host.Outcome.next.inj h]
    split
    · rw [reevaluate_link, completeEngagement_link]
    · rfl
  | quiesceCompletion =>
    refine hkeep ?_
    rw [← Host.Outcome.next.inj h]
    split
    · rw [reevaluate_link, completeQuiesce_link]
    · rfl
  | streamAutomaticClose k =>
    refine hkeep ?_
    rw [← Host.Outcome.next.inj h]
    split
    · exact settleCounts_link (some k) s
    · rfl
  | responseArrival header data => exact hkeep (by rw [← Host.Outcome.next.inj h, arrive_link])
  | responseTimeoutExpiry tag => exact hkeep (by rw [← Host.Outcome.next.inj h, expireIfDue_link])
  | mselAssertion => exact linkLaw_mselAssertion hs h
  | mselDeassertion => exact linkLaw_mselDeassertion hs h
  | responseFrameReady => exact linkLaw_responseFrameReady hs h
  | linkCrc seq =>
    rw [← Host.Outcome.next.inj h]
    exact linkLaw_linkCrc seq hs
  | linkLength seq =>
    rw [← Host.Outcome.next.inj h]
    exact linkLaw_linkLength seq hs
  | badCommand seq =>
    rw [← Host.Outcome.next.inj h]
    exact linkLaw_badCommand seq hs
  | status seq args => exact hlink .status seq args h
  | readSettings seq args => exact hlink .readSettings seq args h
  | writeSettings seq args => exact hlink .writeSettings seq args h
  | readStream seq args => exact hlink .readStream seq args h
  | writeStream seq args => exact hlink .writeStream seq args h
  | setStreamState seq args => exact hlink .setStreamState seq args h
  | flushStream seq args => exact hlink .flushStream seq args h
  | clearFlags seq args => exact hlink .clearFlags seq args h
  | readSlots seq args => exact hlink .readSlots seq args h
  | writeSlots seq args => exact hlink .writeSlots seq args h
  | setSlotCount seq args => exact hlink .setSlotCount seq args h
  | commit seq args => exact hlink .commit seq args h
  | engage seq args => exact hlink .engage seq args h
  | disengage seq args => exact hlink .disengage seq args h
  | quiesce seq args => exact hlink .quiesce seq args h
  | resume seq args => exact hlink .resume seq args h
  | snapshot seq args => exact hlink .snapshot seq args h
  | readSnapshot seq args => exact hlink .readSnapshot seq args h
  | readEvents seq args => exact hlink .readEvents seq args h
  | reset seq args => exact hlink .reset seq args h
  | repeatLast seq args => exact hlink .repeatLast seq args h
  | revertStaged seq args => exact hlink .revertStaged seq args h
  | byteBoundary mdi => exact linkLaw_byteBoundary hs h

theorem linkLaw_kept : KeptByStep LinkLaw := by
  intro s t hs hstep
  rw [step] at hstep
  split at hstep
  · cases hstep
    exact hs
  · next c rest _ => exact exec_linkLaw (s := s.withPending rest) hs hstep

/-- Settles O55: the Event Queue, the latency values and the link, law by law. -/
theorem eventLatencyAndLinkLawsAreKept : Obligations.EventLatencyAndLinkLawsAreKept :=
  ⟨eventQueueLaw_kept, latencyLaw_kept, linkLaw_kept⟩

/-! PROOFS. The step, the frames of the link and the headers of the ports (O1 to O7), and the power-on reset (O31). -/

/-- Settles O1: by the two branches of the step. -/
theorem stepRunsTheFrontCommand : Obligations.StepRunsTheFrontCommand := by
  refine ⟨fun c rest s h => ?_, fun c s => rfl, fun s h => ?_⟩
  · rw [step, h]
  · rw [step, h]

/-! ### Frames -/

theorem ofCode_code (c : LinkCommand) : LinkCommand.ofCode c.code = some c := by cases c <;> rfl

/-- R162. The codes 01h to 16h are the known ones. -/
theorem ofCode_eq_none {b : Byte} (h : b.toNat = 0 ∨ 0x16 < b.toNat) : LinkCommand.ofCode b = none := by
  rw [LinkCommand.ofCode]
  split <;> first | rfl | omega

theorem crcBit_eq (c : Byte) : crcBit c = if c.getLsbD 7 then (c <<< 1) ^^^ 0x07#8 else c <<< 1 := by
  rw [crcBit, BitVec.msb_eq_getLsbD_last]

theorem crc8_append (bytes : List Byte) (b : Byte) : crc8 (bytes ++ [b]) = crcByte (crc8 bytes) b :=
  List.foldl_append

theorem crcByte_eq (c b : Byte) :
    crcByte c b =
      (List.range 8).foldl (fun c _ => if c.getLsbD 7 then (c <<< 1) ^^^ 0x07#8 else c <<< 1) (c ^^^ b) := by
  simp only [← crcBit_eq]
  rfl

/-- R159, R161. The header of a frame, with a length of at most 128, and too few bytes behind it. -/
theorem decodeFrame_incomplete {code seq len : Byte} (h : len.toNat ≤ 128) {rest : List Byte}
    (hshort : rest.length ≤ len.toNat) : decodeFrame (code :: seq :: len :: rest) = .incomplete := by
  rw [decodeFrame, if_neg (by omega), List.drop_eq_nil_of_le hshort]

section
variable {code seq len crc : Byte} {args : List Byte} (h : len.toNat ≤ 128) (hlength : args.length = len.toNat)
include h hlength

theorem decodeFrame_badCrc (hcrc : crc ≠ crc8 (code :: seq :: len :: args)) :
    decodeFrame (code :: seq :: len :: (args ++ [crc])) = .badCrc seq := by
  rw [decodeFrame, if_neg (by omega), ← hlength, List.drop_left, List.take_left]
  exact if_neg hcrc

theorem decodeFrame_badCode (hcrc : crc = crc8 (code :: seq :: len :: args)) (hcode : LinkCommand.ofCode code = none) :
    decodeFrame (code :: seq :: len :: (args ++ [crc])) = .badCode seq := by
  rw [decodeFrame, if_neg (by omega), ← hlength, List.drop_left, List.take_left, hcode]
  exact if_pos hcrc

theorem decodeFrame_command (hcrc : crc = crc8 (code :: seq :: len :: args)) {c : LinkCommand}
    (hcode : LinkCommand.ofCode code = some c) :
    decodeFrame (code :: seq :: len :: (args ++ [crc])) = .command c seq args := by
  rw [decodeFrame, if_neg (by omega), ← hlength, List.drop_left, List.take_left, hcode]
  exact if_pos hcrc

end

theorem toNat_length {args : List Byte} (h : args.length ≤ 128) : (BitVec.ofNat 8 args.length).toNat = args.length := by
  rw [BitVec.toNat_ofNat]
  omega

theorem decodeFrame_encodeFrame (c : LinkCommand) (seq : Byte) {args : List Byte} (h : args.length ≤ 128) :
    decodeFrame (encodeFrame c seq args) = .command c seq args := by
  have hlen := toNat_length h
  exact decodeFrame_command (by omega) hlen.symm rfl (ofCode_code c)

theorem decodeFrame_take (c : LinkCommand) (seq : Byte) {args : List Byte} (h : args.length ≤ 128) {n : Nat}
    (hn : n < (encodeFrame c seq args).length) : decodeFrame ((encodeFrame c seq args).take n) = .incomplete := by
  have hlen := toNat_length h
  have hframe : (encodeFrame c seq args).length = args.length + 4 := by simp [encodeFrame]
  obtain _ | _ | _ | m := n
  · rfl
  · rfl
  · rfl
  · refine decodeFrame_incomplete (by omega) ((List.length_take_le _ _).trans ?_)
    omega

/-- Settles O3: the frame read back, and cut short. -/
theorem commandFramesRoundTrip : Obligations.CommandFramesRoundTrip := by
  refine ⟨fun _ _ _ => rfl, fun _ _ => rfl, fun c seq args h => ⟨decodeFrame_encodeFrame c seq h, ?_, fun n hn => ?_⟩⟩
  · rw [decodeFrame_encodeFrame c seq h]
    rfl
  · exact decodeFrame_take c seq h hn

theorem exec_byteBoundary_of_receiving {s : State} {bytes : List Byte} (h : s.link.receiver = .receiving bytes)
    (b : Byte) : exec (.byteBoundary b) s = .next (receiveByte (bytes ++ [b]) s) := by
  simp only [exec, execByteBoundary, h]

/-- Settles O5: the completing byte decodes to the command whose row it runs. -/
theorem lastByteRunsTheCommand : Obligations.LastByteRunsTheCommand := by
  intro s bytes args b seq c hreceiver hargs hframe
  rw [exec_byteBoundary_of_receiving hreceiver, exec_instr, hframe, receiveByte, decodeFrame_encodeFrame c seq hargs]

/-- Settles O6: each row is its answer, and the byte that shows the fault decodes to that row. -/
theorem faultyFramesAreAnswered : Obligations.FaultyFramesAreAnswered := by
  refine ⟨fun s₀ seq => ⟨rfl, rfl, rfl⟩, fun s code seq len crc args hreceiver hlen hargs =>
    ⟨fun hcrc => ?_, fun hcrc hcode => ?_⟩,
    fun s code seq len hreceiver hlen => ?_⟩
  · rw [exec_byteBoundary_of_receiving hreceiver, receiveByte, List.cons_append, List.cons_append, List.cons_append,
      decodeFrame_badCrc hlen hargs hcrc]
    rfl
  · rw [exec_byteBoundary_of_receiving hreceiver, receiveByte, List.cons_append, List.cons_append, List.cons_append,
      decodeFrame_badCode hlen hargs hcrc (ofCode_eq_none hcode)]
    rfl
  · have hframe : decodeFrame ([code, seq] ++ [len]) = .badLength seq := if_pos hlen
    rw [exec_byteBoundary_of_receiving hreceiver, receiveByte, hframe]
    rfl

/-- Settles O2: the written frames are evaluated, the byte orders and the CRC are read off their definitions. -/
theorem writtenFramesDecode : Obligations.WrittenFramesDecode := by
  refine ⟨by decide +kernel, by decide +kernel, rfl, rfl, by decide +kernel, rfl, rfl, fun _ _ _ => rfl,
    ⟨rfl, fun bytes b => ?_⟩, fun n w16 w24 w32 => ⟨?_, rfl, beNat_bytes16 w16, rfl, beNat_bytes24 w24, rfl,
      beNat_bytes32 w32⟩, rfl, rfl, rfl, rfl, rfl, rfl, rfl, rfl, rfl, rfl, rfl, rfl, rfl, rfl, fun r => ?_, rfl, rfl, rfl⟩
  · rw [crc8_append, crcByte_eq]
  · exact (beNat_singleton _).trans (BitVec.toNat_ofNat n 8)
  · cases r <;> rfl

/-! ### Headers -/

theorem kind_ofBit_bit (k : Kind) : Kind.ofBit k.bit = k := by cases k <;> rfl

theorem toNat_ofNat_four {n : Nat} (h : n ≤ 15) : (BitVec.ofNat 4 n).toNat = n := by
  rw [BitVec.toNat_ofNat]
  omega

theorem decodeUpRequest_encodeUpRequest (r : UpRequest) (reserved : BitVec 13) (h : r.length ≤ 15) :
    decodeUpRequest (encodeUpRequest r reserved) r.data = r := by
  simp (disch := decide) only [decodeUpRequest, encodeUpRequest, BitVec.extractLsb'_append_eq_of_le,
    BitVec.extractLsb'_append_eq_of_add_le, Nat.reduceSub, BitVec.extractLsb'_eq_self, kind_ofBit_bit,
    toNat_ofNat_four h]

theorem downResponseUnits_encode (r : DownResponse) (reserved : BitVec 21) (h : r.data.length ≤ 15) :
    downResponseUnits (encodeDownResponse r reserved) = r.data.length := by
  simp (disch := decide) only [downResponseUnits, encodeDownResponse, BitVec.extractLsb'_append_eq_of_le,
    BitVec.extractLsb'_append_eq_of_add_le, Nat.reduceSub, BitVec.extractLsb'_eq_self, toNat_ofNat_four h]

theorem decodeDownResponse_encode (r : DownResponse) (reserved : BitVec 21) (more : List DataUnit)
    (h : r.data.length ≤ 15) : decodeDownResponse (encodeDownResponse r reserved) (r.data ++ more) = r := by
  have hok : decide ((if r.ok = true then 0#1 else 1#1) = 0#1) = r.ok := by cases r.ok <;> rfl
  rw [decodeDownResponse, downResponseUnits_encode r reserved h, List.take_left]
  simp (disch := decide) only [encodeDownResponse, BitVec.extractLsb'_append_eq_of_le,
    BitVec.extractLsb'_append_eq_of_add_le, Nat.reduceSub, BitVec.extractLsb'_eq_self, hok]

/-- Settles O4: each field stands in its own bits. -/
theorem portHeadersCarryTheirFields : Obligations.PortHeadersCarryTheirFields := by
  refine ⟨decodeUpRequest_encodeUpRequest, fun r reserved more h =>
    ⟨downResponseUnits_encode r reserved h, decodeDownResponse_encode r reserved more h⟩, fun r h => ?_, fun r h => ?_⟩
  · simp (disch := decide) only [UpResponse.header, BitVec.extractLsb'_append_eq_of_le,
      BitVec.extractLsb'_append_eq_of_add_le, Nat.reduceSub, BitVec.extractLsb'_eq_self, toNat_ofNat_four h, and_self]
  · have htag : (BitVec.ofNat 6 r.tag.val).toNat = r.tag.val := by
      have := r.tag.isLt
      rw [BitVec.toNat_ofNat]
      exact Nat.mod_eq_of_lt (this.trans (by decide))
    simp (disch := decide) only [DownRequest.header, BitVec.extractLsb'_append_eq_of_le,
      BitVec.extractLsb'_append_eq_of_add_le, Nat.reduceSub, BitVec.extractLsb'_eq_self, htag, kind_ofBit_bit,
      toNat_ofNat_four (h.trans (by decide : 8 ≤ 15)), and_self]

/-! ### The lines of the link -/

theorem exec_mselDeassertion_of_selected {s : State}
    (h : s.link.receiver = .working ∨ s.link.receiver = .done ∨ ∃ p, s.link.receiver = .responding p) :
    exec .mselDeassertion s = .next (s.withLink s.link.place.deselect) := by
  obtain h | h | ⟨p, h⟩ := h <;> simp only [exec, execMselDeassertion, h]

/-- Settles O7: by the state of the receiver. -/
theorem receiverFollowsTheLines : Obligations.ReceiverFollowsTheLines := by
  refine ⟨fun s => ?_, fun s bytes b hreceiver hframe => ?_, fun s r hresponse => ?_, fun s hresponse => ?_,
    fun s b hreceiver => ?_, fun s b p frame hreceiver hbuffer hp => ⟨?_, ?_⟩, fun s b hreceiver => ⟨?_, ?_⟩,
    fun s b hreceiver => ⟨?_, ?_, ?_⟩, fun s hreceiver => ?_, fun s b bytes hreceiver => ?_, fun s hreceiver => ?_⟩
  · rw [exec, execMselAssertion]
    split
    · next hidle =>
      rw [if_pos hidle]
      rfl
    all_goals
      next hbusy =>
      rw [if_neg (by rw [hbusy]; exact nofun)]
  · rw [exec_byteBoundary_of_receiving hreceiver, receiveByte, hframe]
    rfl
  · simp only [exec, execResponseFrameReady, Link.place, hresponse]
    rfl
  · simp only [exec, execResponseFrameReady, hresponse]
  · simp only [exec, execByteBoundary, hreceiver]
    rfl
  · rw [mdo, hreceiver, hbuffer]
    simp [List.getElem?_eq_getElem hp]
  · simp only [exec, execByteBoundary, hreceiver, Link.shiftOut, hbuffer, Option.getD_some]
    split <;> rfl
  · rw [mdo, hreceiver]
  · simp only [exec, execByteBoundary, hreceiver]
  · rw [mdo, hreceiver]
  · simp only [exec, execByteBoundary, hreceiver]
  · simp only [exec, execMselDeassertion, hreceiver]
  · simp only [exec, execMselDeassertion, hreceiver]
    rfl
  · simp only [exec, execMselDeassertion, hreceiver]
    rfl
  · exact exec_mselDeassertion_of_selected hreceiver

/-! ### Power-on reset -/

/-- Settles O31: block by block. -/
theorem powerOnResetGivesTheResetValues : Obligations.PowerOnResetGivesTheResetValues := by
  refine ⟨fun _ => rfl, fun k => ⟨Table.get_replicate _ k, queueOf_reset k, ?_⟩, fun j => Table.get_replicate _ j, rfl, rfl,
    reset_table_get, ?_⟩
  · have hgroup : State.reset.stats.streams.get k = StreamStats.reset := Table.get_replicate _ k
    rw [hgroup]
    rfl
  · decide

/-! ### The stalled request -/

/-- Settles O45: the evaluation reads nothing of the offer place. -/
theorem stalledRequestIsEvaluatedAsOffered : Obligations.StalledRequestIsEvaluatedAsOffered := by
  refine ⟨fun s header data hoffer => ?_, fun s hoffer => reevaluate_none hoffer⟩
  rw [reevaluate_some hoffer, exec_requestOffer_of_empty rfl, ← evaluate_setOffer none s]
  rfl

/-! PROOFS. The tick and the Frame Timer's events (O32 to O39). -/

/-! ### The tick -/

/-! #### The judgement of the sample, branch by branch -/

theorem judgeSample_of_not_runs {s : State} (h : qualifierRuns s = false) : judgeSample s = s := by
  rw [judgeSample, if_neg (Bool.eq_false_iff.1 h)]

section
variable {s : State} (hruns : qualifierRuns s = true)
include hruns

theorem judgeSample_of_same (hidle : s.timer.qualifier = .idle) (h : s.timer.sample = s.timer.reference) :
    judgeSample s = s := by
  simp only [judgeSample, hruns, hidle, if_pos h, if_true]

theorem judgeSample_of_chosen (hidle : s.timer.qualifier = .idle) (h : s.timer.sample ≠ s.timer.reference)
    (hedge : s.timer.sample = s.settings.edge.asserted) :
    judgeSample s = s.withTimer { s.timer with qualifier := .qualifying 0 } := by
  simp only [judgeSample, hruns, hidle, if_neg h, if_pos hedge, if_true]

theorem judgeSample_of_opposite (hidle : s.timer.qualifier = .idle) (h : s.timer.sample ≠ s.timer.reference)
    (hedge : s.timer.sample ≠ s.settings.edge.asserted) :
    judgeSample s = s.withTimer { s.timer with reference := s.timer.sample } := by
  simp only [judgeSample, hruns, hidle, if_neg h, if_neg hedge, if_true]

theorem judgeSample_of_held {c : Nat} (hq : s.timer.qualifier = .qualifying c) (h : s.timer.sample ≠ s.timer.reference) :
    judgeSample s = s := by
  simp only [judgeSample, hruns, hq, if_neg h, if_true]

theorem judgeSample_of_glitch {c : Nat} (hq : s.timer.qualifier = .qualifying c)
    (h : s.timer.sample = s.timer.reference) :
    judgeSample s = updGlobals (fun g => { g with glitches := satAdd g.glitches 1 })
      (s.withTimer { s.timer with qualifier := .idle }) := by
  simp only [judgeSample, hruns, hq, if_pos h, if_true]

end

/-- `s` with another level on the line. -/
def atLine (level : Level) (s : State) : State := s.withTimer { s.timer with line := level }

/-- R46. The judgement of the sample reads nothing of the line, and leaves it. -/
theorem judgeSample_atLine (level : Level) (s : State) : judgeSample (atLine level s) = atLine level (judgeSample s) := by
  have hsame : qualifierRuns (atLine level s) = qualifierRuns s := rfl
  cases hruns : qualifierRuns s with
  | false => rw [judgeSample_of_not_runs hruns, judgeSample_of_not_runs (hsame.trans hruns)]
  | true =>
    have hruns' := hsame.trans hruns
    by_cases h : s.timer.sample = s.timer.reference
    · cases hq : s.timer.qualifier with
      | idle => rw [judgeSample_of_same hruns hq h, judgeSample_of_same hruns' hq h]
      | qualifying c =>
        rw [judgeSample_of_glitch hruns hq h, judgeSample_of_glitch hruns' hq h]
        rfl
    · cases hq : s.timer.qualifier with
      | idle =>
        by_cases hedge : s.timer.sample = s.settings.edge.asserted
        · rw [judgeSample_of_chosen hruns hq h hedge, judgeSample_of_chosen hruns' hq h hedge]
          rfl
        · rw [judgeSample_of_opposite hruns hq h hedge, judgeSample_of_opposite hruns' hq h hedge]
          rfl
      | qualifying c => rw [judgeSample_of_held hruns hq h, judgeSample_of_held hruns' hq h]

theorem judgeSample_line (s : State) : (judgeSample s).timer.line = s.timer.line := by
  have h := judgeSample_atLine s.timer.line s
  have hsame : atLine s.timer.line s = s := rfl
  rw [hsame] at h
  rw [h]
  rfl

theorem exec_fsyncEdge (level : Level) (s : State) :
    exec (.fsyncEdge level) s = .next (if level = s.timer.sample then judgeSample (atLine level s) else atLine level s) :=
  rfl

/-- The row of FSYNC_EDGE at the sample's level is the judgement, apart from the line. -/
theorem atLine_run_fsyncEdge (s : State) :
    atLine s.timer.line (run (.fsyncEdge s.timer.sample) s) = judgeSample s := by
  have hline := judgeSample_line s
  rw [run, exec_fsyncEdge, if_pos rfl, judgeSample_atLine]
  change atLine s.timer.line (judgeSample s) = judgeSample s
  rw [← hline]
  rfl

/-- Log entry 2. The events that a TICK takes first, each as its own row takes it. -/
theorem settled_eq_settle (s : State) : settled s = settle s := by
  have hjudged := atLine_run_fsyncEdge s
  have hcount (t : State) : ((List.finRange 24).map fun k => (queueOf t k).length).sum = (streamHeld t).length := by
    rw [streamHeld_eq_flatMap, List.length_flatMap]
  rw [settled]
  simp only [hcount]
  rw [settle, ← hjudged]
  rfl

theorem satSucc16_eq (n : Nat) (p : Prop) [Decidable p] :
    (if p then satSucc16 n else n) = if p ∧ n < 65535 then n + 1 else n := by
  by_cases hp : p
  · rw [if_pos hp, satSucc16, maxCount16]
    simp only [hp, true_and]
  · rw [if_neg hp, if_neg (fun h => hp h.1)]

theorem qualifierRuns_eq (s : State) :
    qualifierRuns s = (s.timer.state = .waitSync || s.timer.state = .locked || s.timer.state = .holdover) := by
  rw [qualifierRuns]
  cases s.timer.state <;> rfl

theorem qualifierRuns_iff (s : State) :
    qualifierRuns s = true ↔
      s.timer.state = .waitSync ∨ s.timer.state = .locked ∨ s.timer.state = .holdover := by
  rw [qualifierRuns]
  cases s.timer.state <;> simp

/-- With nothing left over, nothing is taken first. -/
theorem settle_of_nothingDue {s : State} (h : nothingDue s = true) : settle s = s := by
  simp only [nothingDue, Bool.and_eq_true, beq_iff_eq, Bool.not_eq_true', Option.isNone_iff_eq_none,
    List.all_eq_true] at h
  obtain ⟨⟨⟨⟨⟨⟨hjudge, hqualify⟩, hslot⟩, hsync⟩, hcross⟩, hexpire⟩, hrelease⟩ := h
  have hcrossOne : crossOldest s = s := by rw [crossOldest, hcross]
  have hexpireAll : expireAll s = s := List.foldl_fixed' (fun t => by rw [expireIfDue, hexpire t (List.mem_finRange t)]) _
  rw [settle, hjudge, qualifyIfDue, if_neg (by simp [hqualify]), slotEndIfDue, if_neg (by simp [hslot]),
    expireSyncIfDue, if_neg (by simp [hsync]), crossAll, Function.iterate_fixed hcrossOne, hexpireAll, releaseIfDue,
    hrelease]

/-- R36. The counts that run on ticks, written out. -/
theorem advance_eq (level : Level) (s : State) :
    advance level s =
      { s with
        timer :=
          { s.timer with
            tick := s.timer.tick + 1
            divider := s.settings.prescaler.periods
            down := if s.timer.slot = none then s.timer.down else s.timer.down - 1
            waitCount := if s.timer.state = .waitSync ∧ s.timer.waitCount < 65535 then s.timer.waitCount + 1
              else s.timer.waitCount
            qualifier := s.timer.qualifier.hold (qualifierRuns s) s.timer.reference level
            pulse := false
            line := level
            sample := level } } := by
  have hdown : (if s.timer.slot.isSome = true then s.timer.down - 1 else s.timer.down) =
      if s.timer.slot = none then s.timer.down else s.timer.down - 1 := by cases s.timer.slot <;> rfl
  rw [advance, Timer.advance, satSucc16_eq, hdown]
  rfl

theorem hold_eq (runs : Bool) (reference level : Level) (c : Nat) :
    (Qualifier.qualifying c).hold runs reference level =
      .qualifying (if runs = true ∧ level ≠ reference then c + 1 else c) := by
  rw [Qualifier.hold]
  split <;> rfl

/-- Settles O32: what is due is taken, then the counts move. -/
theorem tickAdvancesTheTimer : Obligations.TickAdvancesTheTimer := by
  refine ⟨fun s₀ level => ?_, fun s h => by rw [settled_eq_settle, settle_of_nothingDue h]⟩
  rw [exec_tick, settled_eq_settle]
  generalize settle s₀ = s
  dsimp only
  rw [advance_eq, qualifierRuns_eq]
  cases hq : s.timer.qualifier with
  | idle => cases s.settings.prescaler <;> rfl
  | qualifying c =>
    rw [hold_eq]
    cases s.settings.prescaler <;> rfl

/-! ### Slots -/

/-- R94. The owner's queue, if there is an owner, holds a request as the slot begins. -/
def seenAtStart (s : State) : Option StreamId → Bool
  | some k => decide (queueOf s k ≠ [])
  | none => false

theorem freshOutcome_eq (s : State) (k : SlotId) (e : SlotEntry) :
    freshOutcome s k e =
      { slot := k, owner := e.ownerStream, released := false, seen := seenAtStart s e.ownerStream } := by
  have hseen (j : StreamId) : decide (0 < queuedCount s j) = decide (queueOf s j ≠ []) :=
    decide_eq_decide.2 List.length_pos_iff
  rw [freshOutcome]
  cases e.ownerStream with
  | none => rfl
  | some j => rw [seenAtStart, ← hseen]

theorem seenAtStart_congr {s t : State} (h : t.store = s.store) (o : Option StreamId) :
    seenAtStart t o = seenAtStart s o := by
  cases o with
  | none => rfl
  | some k => rw [seenAtStart, seenAtStart, queueOf, queueOf, h]

theorem beginSlot_eq (k : SlotId) (s : State) :
    beginSlot k s =
      { s with
        timer := { s.timer with slot := some k, down := (s.active.entries.get k).length.toNat }
        engine :=
          { s.engine with
            outcome := some
              { slot := k, owner := (s.active.entries.get k).ownerStream, released := false,
                seen := seenAtStart s (s.active.entries.get k).ownerStream } } } := by
  rw [beginSlot, freshOutcome_eq]
  rfl

/-! ### Frame starts -/

theorem fsyncOut_of_driven {s : State} (htiming : s.settings.timing = .source) (hout : s.settings.fsyncOut = true) :
    fsyncOut s = some (if s.timer.pulse then s.settings.edge.asserted else otherLevel s.settings.edge.asserted) :=
  if_pos ⟨htiming, hout⟩

theorem renew_eq (e : StreamEntry) :
    e.renew =
      { e with
        credit :=
          if e.state = .disabled then e.credit
          else if e.carry then min (e.credit + e.reload.toNat) (2 * e.reload.toNat)
          else e.reload.toNat } := by
  rw [StreamEntry.renew]
  split
  · rfl
  · split <;> rfl

theorem frameOpened_streams (loss : Option (EventKind × Nat)) (s : State) : (frameOpened loss s).streams = s.streams := by
  cases loss <;> exact commitAtFrame_streams _

theorem frameOpened_engine (loss : Option (EventKind × Nat)) (s : State) : (frameOpened loss s).engine = s.engine := by
  cases loss <;> exact commitAtFrame_engine _

theorem frameOpened_store (loss : Option (EventKind × Nat)) (s : State) : (frameOpened loss s).store = s.store := by
  cases loss <;> exact commitAtFrame_store _

/-- R15, R43, R94. What a frame start does after its records: the credits, slot 0, the counter. -/
theorem frameStart_written_out (loss : Option (EventKind × Nat)) (s : State) :
    frameStart loss s =
      { frameOpened loss s with
        streams := s.streams.map StreamEntry.renew
        timer :=
          { (frameOpened loss s).timer with
            slot := some 0, down := ((frameOpened loss s).active.entries.get 0).length.toNat }
        engine :=
          { s.engine with
            outcome := some
              { slot := 0, owner := ((frameOpened loss s).active.entries.get 0).ownerStream, released := false,
                seen := seenAtStart s ((frameOpened loss s).active.entries.get 0).ownerStream } }
        stats :=
          { (frameOpened loss s).stats with
            globals :=
              { (frameOpened loss s).stats.globals with
                framesStarted := satAdd (frameOpened loss s).stats.globals.framesStarted 1 } } } := by
  have hstreams := frameOpened_streams loss s
  have hengine := frameOpened_engine loss s
  have hstore := frameOpened_store loss s
  rw [frameStart_eq]
  generalize frameOpened loss s = u at *
  have hseen (o : Option StreamId) : seenAtStart (u.withStreams (s.streams.map StreamEntry.renew)) o = seenAtStart s o :=
    seenAtStart_congr hstore o
  rw [beginSlot_eq, renewCredits, hstreams, hseen, ← hengine]
  rfl

/-- R31, R45, R132. What a frame start does first, written out. -/
theorem frameOpened_written_out (loss : Option (EventKind × Nat)) (s : State) :
    frameOpened loss s =
      commitAtFrame (loss.elim id (fun l => recordNow l.1 none none l.2 none)
        (s.withTimer
          { s.timer with
            frame := s.timer.frame + 1, frameTick := s.timer.tick
            pulse := if s.timer.state = .free then s.settings.fsyncOut else false })) := by
  have hpulse : (decide (s.timer.state = .free) && s.settings.fsyncOut) =
      if s.timer.state = .free then s.settings.fsyncOut else false := by
    split
    · next h => rw [decide_eq_true h, Bool.true_and]
    · next h => rw [decide_eq_false h, Bool.false_and]
  unfold frameOpened Timer.startFrame
  rw [hpulse]
  cases loss <;> rfl

/-- Settles O33: FSYNC by its two settings and the pulse, the frame start in its order. -/
theorem frameStartDoesItsParts : Obligations.FrameStartDoesItsParts := by
  refine ⟨fun s => ⟨fun htiming hout hpulse => ?_, fun htiming hout hpulse => ?_, fun h => if_neg ?_⟩, fun s loss => ?_⟩
  · rw [fsyncOut_of_driven htiming hout, hpulse]
    rfl
  · rw [fsyncOut_of_driven htiming hout, hpulse]
    cases s.settings.edge <;> rfl
  · rintro ⟨htiming, hout⟩
    rw [htiming, hout] at h
    simp at h
  · have hrenew : StreamEntry.renew = fun e =>
        { e with
          credit :=
            if e.state = .disabled then e.credit
            else if e.carry then min (e.credit + e.reload.toNat) (2 * e.reload.toNat)
            else e.reload.toNat } := funext renew_eq
    rw [frameStart_written_out, frameOpened_written_out, hrenew]
    cases loss <;> rfl

/-! ### The end of a slot -/

theorem classifySlot_of_none {s : State} (h : s.engine.outcome = none) : classifySlot s = s := by rw [classifySlot, h]

/-- R94. The record of the slot that ended, consumed. -/
def consumeOutcome (s : State) : State := s.withEngine { s.engine with outcome := none }

theorem classifySlot_of_unowned {s : State} {o : SlotOutcome} (h : s.engine.outcome = some o) (howner : o.owner = none) :
    classifySlot s = consumeOutcome s := by
  rw [classifySlot, h]
  simp only [howner]
  rfl

theorem classifySlot_of_owned {s : State} {o : SlotOutcome} {k : StreamId} (h : s.engine.outcome = some o)
    (howner : o.owner = some k) :
    classifySlot s = recordHeld o k (updStats k (StreamStats.slot o) (consumeOutcome s)) := by
  rw [classifySlot, h]
  simp only [howner]
  rfl

theorem slot_of_released {o : SlotOutcome} (h : o.released = true) (g : StreamStats) :
    g.slot o = { g with slotsUsed := satAdd g.slotsUsed 1 } := by rw [StreamStats.slot, if_pos h]

theorem slot_of_blocked {o : SlotOutcome} (hreleased : o.released = false) (hseen : o.seen = true) (g : StreamStats) :
    g.slot o = { g with slotsBlocked := satAdd g.slotsBlocked 1 } := by
  rw [StreamStats.slot, hreleased, hseen]
  rfl

theorem slot_of_idle {o : SlotOutcome} (hreleased : o.released = false) (hseen : o.seen = false) (g : StreamStats) :
    g.slot o = { g with slotsIdle := satAdd g.slotsIdle 1 } := by
  rw [StreamStats.slot, hreleased, hseen]
  rfl

/-- R96. Nothing is recorded for a slot that is not BLOCKED, whose queue is empty, whose head the credit covers, or
whose stream has its latch set. -/
theorem recordHeld_of_not_short {o : SlotOutcome} {k : StreamId} {s : State}
    (h : o.released = true ∨ o.seen = false ∨ queueOf s k = [] ∨
      (∃ d rest, queueOf s k = d :: rest ∧ d.length ≤ (s.streams.get k).credit) ∨ (s.streams.get k).heldSeen = true) :
    recordHeld o k s = s := by
  rw [recordHeld]
  cases hq : queueOf s k with
  | nil => rfl
  | cons d rest =>
    refine if_pos ?_
    rw [hq] at h
    obtain h | h | h | ⟨d', rest', h, hlength⟩ | h := h
    · simp [h]
    · simp [h]
    · cases h
    · cases h
      simp [hlength]
    · simp [h]

theorem recordHeld_of_short {o : SlotOutcome} {k : StreamId} {s : State} {d : Descriptor} {rest : List Descriptor}
    (hreleased : o.released = false) (hseen : o.seen = true) (hq : queueOf s k = d :: rest)
    (hcredit : (s.streams.get k).credit < d.length) (hlatch : (s.streams.get k).heldSeen = false) :
    recordHeld o k s =
      updStream k (fun e => { e with heldSeen := true })
        (recordNow .overBudget (some k) (some (d.initiator, d.transaction)) (s.streams.get k).credit (some o.slot) s) := by
  rw [recordHeld, hq]
  refine if_neg ?_
  simp [hreleased, hseen, hlatch, hcredit]

theorem slotEndDue_iff (s : State) :
    slotEndDue s = true ↔ s.timer.state ≠ .stopped ∧ s.timer.slot ≠ none ∧ s.timer.down = 0 := by
  simp [slotEndDue, and_assoc, Option.isSome_iff_ne_none]

theorem exec_slotEnd_of_due {s : State} {k : SlotId} (hstate : s.timer.state ≠ .stopped) (hslot : s.timer.slot = some k)
    (hdown : s.timer.down = 0) : exec .slotEnd s = .next (endSlot s) := by
  have hdue : slotEndDue s = true := (slotEndDue_iff s).2 ⟨hstate, by rw [hslot]; exact nofun, hdown⟩
  change Host.Outcome.next (slotEndIfDue s) = _
  rw [slotEndIfDue, if_pos hdue]

theorem endSlot_of_next {s : State} {k : SlotId} (hslot : s.timer.slot = some k) (h : k.val + 1 < 48)
    (hnext : k.val + 1 < s.active.count) : endSlot s = beginSlot ⟨k.val + 1, h⟩ (classifySlot s) := by
  have hnext : nextSlot s.active k = some ⟨k.val + 1, h⟩ := dif_pos ⟨hnext, h⟩
  rw [endSlot, hslot]
  simp only [hnext]

theorem endSlot_of_last {s : State} {k : SlotId} (hslot : s.timer.slot = some k) (hlast : s.active.count ≤ k.val + 1) :
    endSlot s = endFrame (classifySlot s) := by
  have hnext : nextSlot s.active k = none := dif_neg fun h => absurd h.1 (not_lt.2 hlast)
  rw [endSlot, hslot]
  simp only [hnext]

/-- The classification leaves the pointer. -/
theorem classifySlot_pointer (s : State) : (classifySlot s).engine.pointer = s.engine.pointer := by
  cases h : s.engine.outcome with
  | none => rw [classifySlot_of_none h]
  | some o =>
    cases howner : o.owner with
    | none =>
      rw [classifySlot_of_unowned h howner]
      rfl
    | some k =>
      rw [classifySlot_of_owned h howner, recordHeld_engine]
      rfl

theorem ownerStream_of_stream {e : SlotEntry} {k : StreamId} (howner : e.owner = .stream)
    (hnumber : e.number.toNat = k.val) : e.ownerStream = some k := by
  have hlt : e.number.toNat < numStreams := hnumber ▸ k.isLt
  rw [SlotEntry.ownerStream, if_pos howner, dif_pos hlt]
  exact congrArg some (Fin.ext hnumber)

theorem ownerStream_of_not_stream {e : SlotEntry} (h : e.owner ≠ .stream) : e.ownerStream = none := by
  rw [SlotEntry.ownerStream, if_neg h]

/-- Settles O34: the classification by the record, then the slot that begins. -/
theorem slotEndClassifiesAndGivesWay : Obligations.SlotEndClassifiesAndGivesWay := by
  refine ⟨fun s => ⟨classifySlot_of_none, fun o ho => ⟨fun howner => classifySlot_of_unowned ho howner, fun k howner =>
    ⟨fun hreleased => ?_, fun hreleased hseen => ?_, fun hreleased hseen =>
      ⟨fun d rest hq hcredit hlatch => ?_, fun h => ?_⟩⟩⟩⟩,
    fun s k h hstate hslot hdown hnext => ?_, fun s h => ?_, fun e => ⟨fun k howner hnumber =>
      ownerStream_of_stream howner hnumber, fun h => ownerStream_of_not_stream ?_⟩⟩
  · rw [classifySlot_of_owned ho howner, recordHeld_of_not_short (.inl hreleased), updStats, slot_of_released hreleased]
    rfl
  · rw [classifySlot_of_owned ho howner, recordHeld_of_not_short (.inr (.inl hseen)), updStats,
      slot_of_idle hreleased hseen]
    rfl
  · rw [classifySlot_of_owned ho howner, recordHeld_of_short
      (s := updStats k (StreamStats.slot o) (consumeOutcome s)) hreleased hseen hq hcredit hlatch, updStats,
      slot_of_blocked hreleased hseen]
    rfl
  · rw [classifySlot_of_owned ho howner, recordHeld_of_not_short
      (s := updStats k (StreamStats.slot o) (consumeOutcome s)) (.inr (.inr h)), updStats,
      slot_of_blocked hreleased hseen]
    rfl
  · have hpointer := classifySlot_pointer s
    have hactive := classifySlot_active s
    have htimer := classifySlot_timer s
    rw [exec_slotEnd_of_due hstate hslot hdown, endSlot_of_next hslot h hnext, beginSlot_eq,
      seenAtStart_congr (classifySlot_store s)]
    generalize classifySlot s = t at *
    dsimp only
    rw [hpointer, ← hactive, ← htimer]
    rfl
  · change Host.Outcome.next (slotEndIfDue s) = _
    rw [slotEndIfDue, if_neg]
    rw [slotEndDue_iff]
    rintro ⟨hstate, hslot, hdown⟩
    obtain h | h | h := h
    · exact hstate h
    · exact hslot h
    · omega
  · rcases h with h | h <;> rw [h] <;> exact nofun

/-! ### The end of the last slot -/

theorem endFrame_of_free {s : State} (h : s.timer.state = .free) : endFrame s = reevaluate (frameStart none s) := by
  rw [endFrame, h]

theorem endFrame_of_holdover {s : State} (h : s.timer.state = .holdover) :
    endFrame s =
      reevaluate (frameStart none (s.withTimer { s.timer with holdover := satSucc16 s.timer.holdover })) := by
  rw [endFrame, h]

theorem endFrame_of_locked {s : State} (h : s.timer.state = .locked) :
    endFrame s = s.withTimer { s.timer with state := .waitSync, slot := none, waitCount := 0 } := by
  rw [endFrame, h]

/-- Settles O35: by the timer state. -/
theorem lastSlotEndsByTimerState : Obligations.LastSlotEndsByTimerState := by
  intro s k hslot hdown hlast
  have hexec (hstate : s.timer.state ≠ .stopped) : exec .slotEnd s = .next (endFrame (classifySlot s)) := by
    rw [exec_slotEnd_of_due hstate hslot hdown, endSlot_of_last hslot hlast]
  refine ⟨fun hstate => ?_, fun hstate => ?_, fun hstate => ?_⟩
  · rw [hexec (by rw [hstate]; exact nofun), endFrame_of_free (by rw [classifySlot_timer, hstate])]
  · rw [hexec (by rw [hstate]; exact nofun), endFrame_of_holdover (by rw [classifySlot_timer, hstate]),
      classifySlot_timer]
    rfl
  · rw [hexec (by rw [hstate]; exact nofun), endFrame_of_locked (by rw [classifySlot_timer, hstate]),
      classifySlot_timer]
    rfl

/-! ### Following FSYNC -/

theorem qualificationDue_iff (s : State) :
    qualificationDue s = true ↔
      (s.timer.state = .waitSync ∨ s.timer.state = .locked ∨ s.timer.state = .holdover) ∧
        ∃ c, s.timer.qualifier = .qualifying c ∧ s.settings.q.toNat ≤ c := by
  rw [qualificationDue, Bool.and_eq_true, qualifierRuns_iff]
  refine and_congr Iff.rfl ?_
  cases s.timer.qualifier with
  | idle => simp
  | qualifying c => simp

theorem exec_syncQualification_of_due {s : State} (h : qualificationDue s = true) :
    exec .syncQualification s = .next (qualify s) := by
  change Host.Outcome.next (qualifyIfDue s) = _
  rw [qualifyIfDue, if_pos h]

/-- R46. The qualifier back to IDLE, with the new reference level. -/
def requalified (s : State) : State :=
  s.withTimer { s.timer with qualifier := .idle, reference := s.settings.edge.asserted }

theorem qualify_of_waitSync {s : State} (h : s.timer.state = .waitSync) :
    qualify s = reevaluate (endWait (requalified s)) := by
  rw [qualify, h]
  rfl

theorem qualify_of_holdover {s : State} (h : s.timer.state = .holdover) :
    qualify s = reevaluate (regainSync (requalified s)) := by
  rw [qualify, h]
  rfl

theorem qualify_of_last {s : State} {k : SlotId} (h : s.timer.state = .locked) (hslot : s.timer.slot = some k)
    (hlast : s.active.count ≤ k.val + 1) :
    qualify s = reevaluate (frameStart none (classifySlot (requalified s))) := by
  rw [qualify, h]
  dsimp only
  split
  · next hnone => exact absurd (hslot.symm.trans hnone) nofun
  · next j hj =>
    cases hslot.symm.trans hj
    exact if_neg (not_lt.2 hlast)

theorem qualify_of_early {s : State} {k : SlotId} (h : s.timer.state = .locked) (hslot : s.timer.slot = some k)
    (hearly : k.val + 1 < s.active.count) : qualify s = earlySync (requalified s) := by
  rw [qualify, h]
  dsimp only
  split
  · next hnone => exact absurd (hslot.symm.trans hnone) nofun
  · next j hj =>
    cases hslot.symm.trans hj
    exact if_pos hearly

theorem qualify_of_no_slot {s : State} (h : s.timer.state = .locked) (hslot : s.timer.slot = none) :
    qualify s = requalified s := by
  rw [qualify, h]
  dsimp only
  split
  · rfl
  · next j hj => exact absurd (hslot.symm.trans hj) nofun

theorem regainSync_eq (s : State) :
    regainSync s =
      frameStart (some (.syncRegained, s.timer.holdover))
        ((updGlobals (fun g => { g with syncRegains := satAdd g.syncRegains 1 }) (classifySlot s)).withTimer
          { s.timer with state := .locked, holdover := 0 }) := by
  rw [regainSync]
  simp only [updGlobals_timer, classifySlot_timer]

/-- Settles O36: by the timer state. -/
theorem syncQualificationActsByTimerState : Obligations.SyncQualificationActsByTimerState := by
  refine ⟨fun s c hq hcount => ?_, fun s h => ?_⟩
  · have hexec (hstate : s.timer.state = .waitSync ∨ s.timer.state = .locked ∨ s.timer.state = .holdover) :
        exec .syncQualification s = .next (qualify s) :=
      exec_syncQualification_of_due ((qualificationDue_iff s).2 ⟨hstate, c, hq, hcount⟩)
    refine ⟨fun hstate => ?_, fun hstate => ?_, fun k hstate hslot hlast => ?_, fun k hstate hslot hearly =>
      ⟨fun hseen => ?_, fun hseen => ?_⟩⟩
    · rw [hexec (.inl hstate), qualify_of_waitSync hstate]
      rfl
    · rw [hexec (.inr (.inr hstate)), qualify_of_holdover hstate, regainSync_eq]
      rfl
    · rw [hexec (.inr (.inl hstate)), qualify_of_last hstate hslot hlast]
      rfl
    · rw [hexec (.inr (.inl hstate)), qualify_of_early hstate hslot hearly]
      exact congrArg _ (if_pos hseen)
    · rw [hexec (.inr (.inl hstate)), qualify_of_early hstate hslot hearly]
      refine congrArg _ ((if_neg (Bool.eq_false_iff.1 hseen)).trans ?_)
      rw [← hslot]
      rfl
  · change Host.Outcome.next (qualifyIfDue s) = _
    rw [qualifyIfDue, if_neg]
    rw [qualificationDue_iff]
    rintro ⟨hstate, c, hq, hcount⟩
    obtain h | ⟨c', h, hlt⟩ | h | h := h
    · rw [h] at hq
      cases hq
    · rw [h] at hq
      cases hq
      omega
    · simp [h] at hstate
    · simp [h] at hstate

theorem exec_syncTimeoutExpiry_of_due {s : State} (h : syncTimeoutDue s = true) :
    exec .syncTimeoutExpiry s = .next (expireSync s) := by
  change Host.Outcome.next (expireSyncIfDue s) = _
  rw [expireSyncIfDue, if_pos h]

/-- Settles O37: the expiry is due exactly in a wait that has reached its timeout. -/
theorem syncTimeoutExpiryEntersHoldover : Obligations.SyncTimeoutExpiryEntersHoldover := by
  refine ⟨fun s hstate htimeout hcount =>
    ⟨exec_syncTimeoutExpiry_of_due ((syncTimeoutDue_iff s).2 ⟨hstate, htimeout, hcount⟩), rfl⟩, fun s h => ?_⟩
  change Host.Outcome.next (expireSyncIfDue s) = _
  rw [expireSyncIfDue, if_neg]
  rw [syncTimeoutDue_iff]
  rintro ⟨hstate, htimeout, hcount⟩
  obtain h | h | h := h
  · exact h hstate
  · exact htimeout h
  · omega

/-- Settles O39: the judgement of the sample, branch by branch. -/
theorem fsyncChangeIsJudged : Obligations.FsyncChangeIsJudged := by
  intro s level
  have hlevel : (match s.settings.edge with | .rising => Level.high | .falling => Level.low) = s.settings.edge.asserted := by
    cases s.settings.edge <;> rfl
  have hexec (h : level = s.timer.sample) : exec (.fsyncEdge level) s = .next (judgeSample (atLine level s)) := by
    rw [exec_fsyncEdge, if_pos h]
  refine ⟨fun h => ?_, fun h hruns hidle hsame => ?_, fun h hruns hidle hne hchosen => ?_,
    fun h hruns hidle hne hopposite => ?_, fun c h hruns hq hne => ?_, fun c h hruns hq hsame => ?_⟩
  · by_cases hsample : level = s.timer.sample
    · have hruns : qualifierRuns s = false := by
        rw [Bool.eq_false_iff, Ne, qualifierRuns_iff]
        exact h.resolve_left (fun h => h hsample)
      rw [hexec hsample, judgeSample_of_not_runs (s := atLine level s) hruns]
      rfl
    · rw [exec_fsyncEdge, if_neg hsample]
      rfl
  · rw [hexec h, judgeSample_of_same (s := atLine level s) ((qualifierRuns_iff s).2 hruns) hidle (h.symm.trans hsame)]
    rfl
  · rw [hexec h, judgeSample_of_chosen (s := atLine level s) ((qualifierRuns_iff s).2 hruns) hidle
      (fun hsame => hne (h.trans hsame)) (h.symm.trans (hchosen.trans hlevel))]
    rfl
  · rw [hexec h, judgeSample_of_opposite (s := atLine level s) ((qualifierRuns_iff s).2 hruns) hidle
      (fun hsame => hne (h.trans hsame)) (fun hedge => hopposite (h.trans (hedge.trans hlevel.symm)))]
    rw [h]
    rfl
  · rw [hexec h, judgeSample_of_held (s := atLine level s) ((qualifierRuns_iff s).2 hruns) hq
      (fun hsame => hne (h.trans hsame))]
    rfl
  · rw [hexec h, judgeSample_of_glitch (s := atLine level s) ((qualifierRuns_iff s).2 hruns) hq (h.symm.trans hsame)]
    rfl

/-! ### The completion of a commit -/

/-- R31. A frame start has put the staged bank in force. -/
structure Committed (s t : State) : Prop where
  pending : t.ctl.pendingOp = .none
  active : t.active = s.staged
  staged : t.staged = s.staged
  frame : t.timer.frame = s.timer.frame + 1

theorem frameStart_frame (loss : Option (EventKind × Nat)) (s : State) :
    (frameStart loss s).timer.frame = s.timer.frame + 1 := by
  rw [frameStart_timer]
  rfl

/-- R31. A frame start of a state that differs from `s` in nothing that a commit reads. -/
theorem committed_frameStart {s u : State} (h : s.ctl.pendingOp = .commit) (hctl : u.ctl = s.ctl)
    (hstaged : u.staged = s.staged) (hframe : u.timer.frame = s.timer.frame) (loss : Option (EventKind × Nat)) :
    Committed s (reevaluate (frameStart loss u)) := by
  have hcommit : u.ctl.pendingOp = .commit := by rw [hctl, h]
  refine ⟨?_, ?_, ?_, ?_⟩
  · rw [reevaluate_ctl, frameStart_pendingOp, if_pos hcommit]
  · rw [reevaluate_active, frameStart_active, if_pos hcommit, hstaged]
  · rw [reevaluate_staged, frameStart_staged, hstaged]
  · rw [reevaluate_timer, frameStart_frame, hframe]

theorem committed_expireSync {s : State} (h : s.ctl.pendingOp = .commit) : Committed s (expireSync s) := by
  rw [expireSync]
  refine committed_frameStart h ?_ ?_ ?_ _
  · rfl
  · rfl
  · rfl

theorem committed_endFrame {s : State} (h : s.ctl.pendingOp = .commit)
    (hstate : s.timer.state = .free ∨ s.timer.state = .holdover) : Committed s (endFrame s) := by
  rcases hstate with hstate | hstate
  · rw [endFrame_of_free hstate]
    exact committed_frameStart h rfl rfl rfl _
  · rw [endFrame_of_holdover hstate]
    refine committed_frameStart h ?_ ?_ ?_ _
    · rfl
    · rfl
    · rfl

theorem Committed.of_classifySlot {s t : State} (h : Committed (classifySlot s) t) : Committed s t :=
  ⟨h.pending, h.active.trans (classifySlot_staged s), h.staged.trans (classifySlot_staged s),
    h.frame.trans (by rw [classifySlot_timer])⟩

theorem committed_qualify {s : State} (h : s.ctl.pendingOp = .commit)
    (hstate : s.timer.state = .waitSync ∨ s.timer.state = .holdover ∨
      ∃ k : SlotId, s.timer.state = .locked ∧ s.timer.slot = some k ∧ s.active.count ≤ k.val + 1) :
    Committed s (qualify s) := by
  obtain hstate | hstate | ⟨k, hstate, hslot, hlast⟩ := hstate
  · rw [qualify_of_waitSync hstate, endWait]
    refine committed_frameStart h ?_ ?_ ?_ _
    · rfl
    · rfl
    · rfl
  · rw [qualify_of_holdover hstate, regainSync_eq]
    refine committed_frameStart h ?_ ?_ ?_ _
    · rw [State.withTimer_ctl, updGlobals_ctl, classifySlot_ctl]
      rfl
    · rw [State.withTimer_staged, updGlobals_staged, classifySlot_staged]
      rfl
    · rfl
  · rw [qualify_of_last hstate hslot hlast]
    refine committed_frameStart h ?_ ?_ ?_ _
    · rw [classifySlot_ctl]
      rfl
    · rw [classifySlot_staged]
      rfl
    · rw [classifySlot_timer]
      rfl

/-- R31. A due event either makes a frame start, which completes the commit, or leaves it pending. -/
theorem qualify_committed_or {s : State} (h : s.ctl.pendingOp = .commit) :
    Committed s (qualify s) ∨ (qualify s).ctl.pendingOp = .commit := by
  cases hstate : s.timer.state with
  | waitSync => exact .inl (committed_qualify h (.inl hstate))
  | holdover => exact .inl (committed_qualify h (.inr (.inl hstate)))
  | locked =>
    cases hslot : s.timer.slot with
    | none =>
      right
      rw [qualify_of_no_slot hstate hslot]
      exact h
    | some k =>
      by_cases hearly : k.val + 1 < s.active.count
      · right
        rw [qualify_of_early hstate hslot hearly, earlySync_ctl]
        exact h
      · exact .inl (committed_qualify h (.inr (.inr ⟨k, hstate, hslot, not_lt.1 hearly⟩)))
  | stopped =>
    right
    rw [qualify, hstate]
    exact h
  | free =>
    right
    rw [qualify, hstate]
    exact h

theorem endFrame_committed_or {s : State} (h : s.ctl.pendingOp = .commit) :
    Committed s (endFrame s) ∨ (endFrame s).ctl.pendingOp = .commit := by
  cases hstate : s.timer.state with
  | free => exact .inl (committed_endFrame h (.inl hstate))
  | holdover => exact .inl (committed_endFrame h (.inr hstate))
  | locked =>
    right
    rw [endFrame_of_locked hstate]
    exact h
  | waitSync =>
    right
    rw [endFrame, hstate]
    exact h
  | stopped =>
    right
    rw [endFrame, hstate]
    exact h

theorem endSlot_committed_or {s : State} (h : s.ctl.pendingOp = .commit) :
    Committed s (endSlot s) ∨ (endSlot s).ctl.pendingOp = .commit := by
  have hclassify : (classifySlot s).ctl.pendingOp = .commit := by rw [classifySlot_ctl, h]
  rw [endSlot]
  split
  · exact .inr h
  · split
    · exact .inr hclassify
    · exact (endFrame_committed_or hclassify).imp_left Committed.of_classifySlot

theorem frameEvent_committed_or {s : State} (h : s.ctl.pendingOp = .commit) :
    Committed s (frameEvent s) ∨ (frameEvent s).ctl.pendingOp = .commit := by
  rw [frameEvent]
  split
  · exact qualify_committed_or h
  · split
    · exact endSlot_committed_or h
    · rw [expireSyncIfDue]
      split
      · exact .inl (committed_expireSync h)
      · exact .inr h

theorem exec_commitCompletion (s : State) :
    exec .commitCompletion s =
      .next (if s.ctl.pendingOp = .commit then
        (if (frameEvent s).ctl.pendingOp = .none then frameEvent s else s) else s) := rfl

/-- R31. Where the due event makes a frame start, the row is that event. -/
theorem exec_commitCompletion_of_committed {s : State} (h : s.ctl.pendingOp = .commit)
    (hcommitted : Committed s (frameEvent s)) : exec .commitCompletion s = .next (frameEvent s) := by
  rw [exec_commitCompletion, if_pos h, if_pos hcommitted.pending]

/-- Settles O38: the due event starts a frame in the three cases, and any frame start completes the commit. -/
theorem commitCompletesAtAFrameStart : Obligations.CommitCompletesAtAFrameStart := by
  refine ⟨fun s hcommit => ⟨fun hdue hstate => ?_, fun hnone k hstate hslot hdown hlast => ?_,
    fun hnone hstate hslot htimeout hcount => ?_⟩, fun s => ?_⟩
  · have hdue := (qualificationDue_iff s).2 hdue
    have hevent : frameEvent s = qualify s := if_pos hdue
    rw [exec_syncQualification_of_due hdue, ← hevent]
    exact exec_commitCompletion_of_committed hcommit (hevent ▸ committed_qualify hcommit hstate)
  · have hrunning : s.timer.state ≠ .stopped := by rcases hstate with h | h <;> rw [h] <;> exact nofun
    have hslotDue : slotEndDue s = true := (slotEndDue_iff s).2 ⟨hrunning, by rw [hslot]; exact nofun, hdown⟩
    have hevent : frameEvent s = endSlot s := (if_neg (mt (qualificationDue_iff s).1 hnone)).trans (if_pos hslotDue)
    have hcommitted : Committed s (endSlot s) := by
      rw [endSlot_of_last hslot hlast]
      refine Committed.of_classifySlot (committed_endFrame ?_ ?_)
      · rw [classifySlot_ctl, hcommit]
      · rw [classifySlot_timer]
        exact hstate
    rw [exec_slotEnd_of_due hrunning hslot hdown, ← hevent]
    exact exec_commitCompletion_of_committed hcommit (hevent ▸ hcommitted)
  · have hsyncDue : syncTimeoutDue s = true := (syncTimeoutDue_iff s).2 ⟨hstate, htimeout, hcount⟩
    have hslotDue : ¬ slotEndDue s = true := fun h => ((slotEndDue_iff s).1 h).2.1 hslot
    have hevent : frameEvent s = expireSync s :=
      (if_neg (mt (qualificationDue_iff s).1 hnone)).trans ((if_neg hslotDue).trans (if_pos hsyncDue))
    rw [exec_syncTimeoutExpiry_of_due hsyncDue, ← hevent]
    exact exec_commitCompletion_of_committed hcommit (hevent ▸ committed_expireSync hcommit)
  · refine ⟨_, exec_commitCompletion s, fun h => if_neg h, fun hcommit => ?_⟩
    rw [if_pos hcommit]
    obtain ⟨hpending, hactive, hstaged, hframe⟩ | hpending := frameEvent_committed_or hcommit
    · rw [if_pos hpending]
      exact .inr ⟨hpending, hactive, hstaged, hframe⟩
    · refine .inl (if_neg ?_)
      rw [hpending]
      exact nofun

/-! ### The mode commands -/

theorem respond_of_run {run : State → State × Answer} {st : Status} {payload : List Byte} {s t : State}
    (h : run (placeResponse s) = (t, { status := st, payload := payload })) (seq : Byte) :
    respond seq true run s = answer seq st payload t := by
  rw [respond_eq_answer, h]

theorem exec_commit (seq : Byte) (args : List Byte) (s : State) :
    exec (.commit seq args) s = .next (respond seq true (cmdCommit args) s) := rfl

theorem exec_engage (seq : Byte) (args : List Byte) (s : State) :
    exec (.engage seq args) s = .next (respond seq true (cmdEngage args) s) := rfl

theorem exec_disengage (seq : Byte) (args : List Byte) (s : State) :
    exec (.disengage seq args) s = .next (respond seq true (cmdDisengage args) s) := rfl

theorem exec_quiesce (seq : Byte) (args : List Byte) (s : State) :
    exec (.quiesce seq args) s = .next (respond seq true (cmdQuiesce args) s) := rfl

theorem exec_resume (seq : Byte) (args : List Byte) (s : State) :
    exec (.resume seq args) s = .next (respond seq true (cmdResume args) s) := rfl

/-! ### COMMIT -/

theorem cmdCommit_of_args {args : List Byte} (h : args ≠ []) (s : State) :
    cmdCommit args s = refusal .badArgument s := by
  cases args with
  | nil => exact absurd rfl h
  | cons b args => rfl

theorem cmdCommit_of_pending {s : State} (h : s.ctl.pendingOp ≠ .none) : cmdCommit [] s = refusal .busy s := if_pos h

theorem cmdCommit_of_fault {s : State} (h : s.ctl.pendingOp = .none) {c : Check} {k : Byte}
    (hfault : s.staged.fault = some (c, k)) :
    cmdCommit [] s = (s, { status := .badArgument, payload := [c.code, k] }) := by
  simp [cmdCommit, h, hfault]

theorem cmdCommit_of_valid {s : State} (h : s.ctl.pendingOp = .none) (hvalid : s.staged.fault = none) :
    cmdCommit [] s =
      if s.timer.state = .stopped then accepted (summaryOf s.staged) (completeCommit s)
      else (s.withCtl { s.ctl with pendingOp := .commit }, { status := .started, payload := summaryOf s.staged }) := by
  simp [cmdCommit, h, hvalid, summary_eq_summaryOf]

/-- R30. With nothing pending, a completion at once changes the bank alone. -/
theorem completeCommit_of_none {s : State} (h : s.ctl.pendingOp = .none) :
    completeCommit s = recordNow .commitDone none none s.staged.count none { s with active := s.staged } := by
  rw [completeCommit, ← h]
  rfl

/-- Settles O22: the four tests in the command's order. -/
theorem commitIsDecidedInOrder : Obligations.CommitIsDecidedInOrder := by
  intro s₀ seq args
  refine ⟨fun hargs => ?_, ?_, ?_, ?_, ?_⟩
  · rw [exec_commit, respond_of_refusal (cmdCommit_of_args hargs _)]
  · rintro rfl hpending
    rw [exec_commit, respond_of_refusal (cmdCommit_of_pending hpending)]
  · rintro rfl hpending c k hfault
    rw [exec_commit, respond_of_run (cmdCommit_of_fault hpending hfault)]
    cases c <;> rfl
  · rintro rfl hpending hvalid hstopped
    have hcmd := cmdCommit_of_valid hpending hvalid
    rw [if_pos hstopped, completeCommit_of_none hpending] at hcmd
    rw [exec_commit, respond_of_accepted hcmd]
  · rintro rfl hpending hvalid hrunning
    have hcmd := cmdCommit_of_valid hpending hvalid
    rw [if_neg hrunning] at hcmd
    rw [exec_commit, respond_of_run hcmd]
    rfl

/-! ### ENGAGE -/

theorem cmdEngage_of_pass {s : State} (hmode : s.ctl.mode = .pass) (hpending : s.ctl.pendingOp = .none) :
    cmdEngage [] s = engage s := by
  simp [cmdEngage, hmode, hpending]

theorem engage_of_queued {s : State} (h : s.store.pass ≠ []) :
    engage s =
      (reevaluate { s with ctl := { s.ctl with mode := .engaging, pendingOp := .engage, engaged := 0 } },
        { status := .started, payload := [] }) := by
  exact if_neg fun hdue =>
    h ((engagementDue_iff (s.withCtl { s.ctl with mode := .engaging, engaged := 0 })).1 hdue).2

theorem engage_of_empty {s : State} (h : s.store.pass = []) :
    engage s = accepted [] (reevaluate (completeEngagement (s.withCtl { s.ctl with mode := .engaging, engaged := 0 }))) :=
  if_pos ((engagementDue_iff (s.withCtl { s.ctl with mode := .engaging, engaged := 0 })).2 ⟨rfl, h⟩)

theorem frameStart_engaged (loss : Option (EventKind × Nat)) (s : State) :
    (frameStart loss s).ctl.engaged = s.ctl.engaged := by
  rw [frameStart_ctl]
  split <;> rfl

theorem completeEngagement_of_source {c : Control} {s : State} (htiming : s.settings.timing = .source) :
    completeEngagement (s.withCtl c) =
      recordNow .engaged none none c.engaged none
        (frameStart none { s with ctl := c.regulate, timer := { s.timer with state := .free } }) := by
  rw [completeEngagement_eq, startTimer_of_source (s := s.withCtl c.regulate) htiming, frameStart_engaged]
  rfl

theorem completeEngagement_of_follow {c : Control} {s : State} (htiming : s.settings.timing = .follow) :
    completeEngagement (s.withCtl c) =
      recordNow .engaged none none c.engaged none
        { s with
          ctl := c.regulate
          timer :=
            { s.timer with
              state := .waitSync, slot := none, down := 0, waitCount := 0, qualifier := .idle,
              reference := s.timer.line, sample := s.timer.line } } := by
  rw [completeEngagement_eq, startTimer_of_follow (s := s.withCtl c.regulate) htiming]
  rfl

/-- Settles O23: the engagement is due exactly with an empty pass queue, and the timing source decides its start. -/
theorem engageStartsOrWaits : Obligations.EngageStartsOrWaits := by
  intro s₀ seq s hmode hpending
  have hcmd := cmdEngage_of_pass hmode hpending
  refine ⟨fun hqueued => ?_, fun hempty htiming => ?_, fun hempty htiming => ?_⟩
  · rw [engage_of_queued hqueued] at hcmd
    rw [exec_engage, respond_of_run hcmd]
  · rw [engage_of_empty hempty, completeEngagement_of_source htiming] at hcmd
    rw [exec_engage, respond_of_accepted hcmd]
  · rw [engage_of_empty hempty, completeEngagement_of_follow htiming] at hcmd
    rw [exec_engage, respond_of_accepted hcmd]

/-! ### DISENGAGE -/

/-- R58, R119. The merged list is a reordering of the requests by descending age. -/
theorem admissionOrder_spec (s : State) (ds : List Descriptor) :
    (admissionOrder s ds).Perm ds ∧ (admissionOrder s ds).Pairwise fun a b => seqAge s b ≤ seqAge s a := by
  have htotal : Std.Total fun a b : Descriptor => seqAge s b ≤ seqAge s a := ⟨fun a b => Nat.le_total _ _⟩
  have htrans : IsTrans Descriptor fun a b => seqAge s b ≤ seqAge s a := ⟨fun a b c hab hbc => hbc.trans hab⟩
  exact ⟨List.perm_insertionSort .., List.pairwise_insertionSort _ ds⟩

theorem cmdDisengage_of_pass {s : State} (h : s.ctl.mode = .pass) : cmdDisengage [] s = accepted [natByte 0] s := by
  simp only [cmdDisengage, h]

theorem cmdDisengage_of_regulation {s : State} (h : s.ctl.mode = .engaging ∨ s.ctl.mode = .regulate) :
    cmdDisengage [] s = accepted [natByte (streamHeld s).length] (disengage s) := by
  rcases h with h | h <;> simp only [cmdDisengage, h]

/-- R119. The merge reads nothing but the store, and the entry into PASS nothing but the control. -/
theorem mergeQueues_toPass {s u : State} (hstore : u.store = s.store)
    (hctl : { u.ctl with mode := .pass, pendingOp := .none } = { s.ctl with mode := .pass, pendingOp := .none }) :
    (mergeQueues u).withCtl { (mergeQueues u).ctl with mode := .pass, pendingOp := .none } =
      { u with
        store :=
          { s.store with
            queues := Table.replicate numStreams []
            pass := s.store.pass ++ admissionOrder s (streamHeld s) }
        ctl := { s.ctl with mode := .pass, pendingOp := .none } } := by
  rw [← hctl, ← hstore]
  unfold admissionOrder seqAge streamHeld
  rw [← hstore]
  rfl

/-- R118. What DISENGAGE leaves does not touch what of the control its end does not write. -/
theorem leaveRegulation_ctl (s : State) :
    { (leaveRegulation s).ctl with mode := .pass, pendingOp := .none } =
      { s.ctl with mode := .pass, pendingOp := .none } := by
  rw [leaveRegulation]
  split
  · rfl
  · rw [recordControl_ctl, commitAtFrame_ctl]
    split <;> rfl

theorem disengage_eq (s : State) :
    disengage s =
      reevaluate
        ((List.finRange 24).foldl (fun t k => closeIfDrained k t)
          { leaveRegulation s with
            store :=
              { s.store with
                queues := Table.replicate numStreams []
                pass := s.store.pass ++ admissionOrder s (streamHeld s) }
            ctl := { s.ctl with mode := .pass, pendingOp := .none } }) := by
  rw [disengage, closeDrained, mergeQueues_toPass (leaveRegulation_store s) (leaveRegulation_ctl s)]

/-- Settles O24: the merged list is the stream queues sorted by age. -/
theorem disengageMergesInAdmissionOrder : Obligations.DisengageMergesInAdmissionOrder := by
  intro s₀ seq
  refine ⟨fun hpass => ?_, fun hmode => ?_⟩
  · rw [exec_disengage, respond_of_accepted (cmdDisengage_of_pass hpass)]
    rfl
  · obtain ⟨hperm, hsorted⟩ := admissionOrder_spec (placeResponse s₀) (streamHeld (placeResponse s₀))
    refine ⟨_, hperm.trans (.of_eq (streamHeld_eq_flatMap _)), hsorted, ?_⟩
    have hcmd := cmdDisengage_of_regulation hmode
    rw [disengage_eq] at hcmd
    rw [exec_disengage, respond_of_accepted hcmd, streamHeld_eq_flatMap, leaveRegulation, streamHeld_eq_flatMap]
    rfl

/-! ### QUIESCE and RESUME -/

theorem inFlightTotal_eq_zero_iff (s : State) : inFlightTotal s = 0 ↔ ∀ t : Tag, (s.table.get t).isInFlight = false := by
  simp [inFlightTotal, List.countP_eq_zero, Table.mem_cells]

/-- R122. The queues that a quiesce waits for. -/
theorem quiesceQueues_of_pass {s : State} (h : s.ctl.returnMode = .pass) :
    quiesceQueues s = true ↔ s.store.pass = [] := by
  simp [quiesceQueues, h, passCount]

theorem quiesceQueues_of_regulate {s : State} (h : s.ctl.returnMode = .regulate) :
    quiesceQueues s = true ↔ ∀ k : StreamId, queueOf s k = [] ∨ (s.streams.get k).state = .paused := by
  simp [quiesceQueues, h, queuedCount]

theorem cmdQuiesce_of_mode {s : State} {back : ReturnMode} (hmode : s.ctl.mode = back.mode)
    (hpending : s.ctl.pendingOp = .none) : cmdQuiesce [] s = quiesce back s := by
  cases back with
  | pass => simp [cmdQuiesce, hmode, hpending, ReturnMode.mode]
  | regulate => simp [cmdQuiesce, hmode, hpending, ReturnMode.mode]

theorem quiesce_of_idle {s : State} {back : ReturnMode} (hpending : s.ctl.pendingOp = .none)
    (h : quiesceDue (s.withCtl { s.ctl with mode := .quiescing, returnMode := back }) = true) :
    quiesce back s =
      accepted [] (reevaluate (recordNow .quiesced none none back.mode.code.toNat none
        { s with ctl := { s.ctl with mode := .quiesced, returnMode := back } })) := by
  rw [quiesce, if_pos h, completeQuiesce, ← hpending]
  rfl

theorem quiesce_of_not_idle {s : State} {back : ReturnMode}
    (h : ¬ quiesceDue (s.withCtl { s.ctl with mode := .quiescing, returnMode := back }) = true) :
    quiesce back s =
      (reevaluate { s with ctl := { s.ctl with mode := .quiescing, returnMode := back, pendingOp := .quiesce } },
        { status := .started, payload := [] }) := by
  rw [quiesce, if_neg h]
  rfl

theorem cmdResume_of_quiescing {s : State} (h : s.ctl.mode = .quiescing) :
    cmdResume [] s = accepted [s.ctl.returnMode.mode.code] (reevaluate (cancelQuiesce s)) := by
  simp only [cmdResume, h]

theorem cmdResume_of_quiesced {s : State} (h : s.ctl.mode = .quiesced) :
    cmdResume [] s =
      accepted [s.ctl.returnMode.mode.code]
        (reevaluate { s with ctl := { s.ctl with mode := s.ctl.returnMode.mode } }) := by
  simp only [cmdResume, h]
  rfl

/-- Settles O25: the condition of a completion at once is that of QUIESCE_COMPLETION under the new return mode. -/
theorem quiesceAndResume : Obligations.QuiesceAndResume := by
  intro s₀ seq back s s1 idle
  have hidle : quiesceDue s1 = true ↔ idle := by
    rw [quiesceDue_iff, inFlightTotal_eq_zero_iff]
    cases back with
    | pass =>
      rw [quiesceQueues_of_pass (s := s1) rfl]
      exact ⟨fun ⟨_, hqueues, hflight⟩ => ⟨hflight, hqueues⟩, fun ⟨hflight, hqueues⟩ => ⟨rfl, hqueues, hflight⟩⟩
    | regulate =>
      rw [quiesceQueues_of_regulate (s := s1) rfl]
      exact ⟨fun ⟨_, hqueues, hflight⟩ => ⟨hflight, hqueues⟩, fun ⟨hflight, hqueues⟩ => ⟨rfl, hqueues, hflight⟩⟩
  refine ⟨fun hmode hpending => ⟨fun h => ?_, fun h => ?_⟩, fun hback hmode => ?_, fun hback hmode => ?_⟩
  · have hcmd := cmdQuiesce_of_mode hmode hpending
    rw [quiesce_of_idle hpending (hidle.2 h)] at hcmd
    rw [exec_quiesce, respond_of_accepted hcmd]
    cases back <;> rfl
  · have hcmd := cmdQuiesce_of_mode hmode hpending
    rw [quiesce_of_not_idle (mt hidle.1 h)] at hcmd
    rw [exec_quiesce, respond_of_run hcmd]
  · rw [exec_resume, respond_of_accepted (cmdResume_of_quiescing hmode), ← hback]
    rfl
  · rw [exec_resume, respond_of_accepted (cmdResume_of_quiesced hmode), ← hback]

/-! ### Refusals -/

theorem cmdEngage_of_busy {s : State} (h : s.ctl.pendingOp ≠ .none) : cmdEngage [] s = refusal .busy s := if_pos h

theorem cmdEngage_of_badState {s : State} (hpending : s.ctl.pendingOp = .none) (hmode : s.ctl.mode ≠ .pass) :
    cmdEngage [] s = refusal .badState s := by
  simp [cmdEngage, hpending, hmode]

theorem cmdDisengage_of_badState {s : State} (h : s.ctl.mode = .quiescing ∨ s.ctl.mode = .quiesced) :
    cmdDisengage [] s = refusal .badState s := by
  rcases h with h | h <;> simp only [cmdDisengage, h]

theorem cmdQuiesce_of_engaging {s : State} (h : s.ctl.mode = .engaging) : cmdQuiesce [] s = refusal .badState s :=
  if_pos h

theorem cmdQuiesce_of_busy {s : State} (hmode : s.ctl.mode ≠ .engaging) (h : s.ctl.pendingOp ≠ .none) :
    cmdQuiesce [] s = refusal .busy s :=
  (if_neg hmode).trans (if_pos h)

theorem cmdQuiesce_of_quiesced {s : State} (hmode : s.ctl.mode = .quiesced) (h : s.ctl.pendingOp = .none) :
    cmdQuiesce [] s = refusal .badState s := by
  simp [cmdQuiesce, hmode, h]

theorem cmdResume_of_badState {s : State} (h : s.ctl.mode = .pass ∨ s.ctl.mode = .engaging ∨ s.ctl.mode = .regulate) :
    cmdResume [] s = refusal .badState s := by
  obtain h | h | h := h <;> simp only [cmdResume, h]

/-- Settles O26: cell by cell. -/
theorem modeTableRefusals : Obligations.ModeTableRefusals := by
  intro s₀ seq b args s refused
  have hcommit (h : s.ctl.pendingOp ≠ .none) : refused (.commit seq []) .busy :=
    congrArg _ (respond_of_refusal (cmdCommit_of_pending h) seq)
  have hengageBusy (h : s.ctl.pendingOp ≠ .none) : refused (.engage seq []) .busy :=
    congrArg _ (respond_of_refusal (cmdEngage_of_busy h) seq)
  have hengage (h : s.ctl.pendingOp = .none) (hmode : s.ctl.mode ≠ .pass) : refused (.engage seq []) .badState :=
    congrArg _ (respond_of_refusal (cmdEngage_of_badState h hmode) seq)
  have hdisengage (h : s.ctl.mode = .quiescing ∨ s.ctl.mode = .quiesced) : refused (.disengage seq []) .badState :=
    congrArg _ (respond_of_refusal (cmdDisengage_of_badState h) seq)
  have hquiesceBusy (hmode : s.ctl.mode ≠ .engaging) (h : s.ctl.pendingOp ≠ .none) : refused (.quiesce seq []) .busy :=
    congrArg _ (respond_of_refusal (cmdQuiesce_of_busy hmode h) seq)
  have hresume (h : s.ctl.mode = .pass ∨ s.ctl.mode = .engaging ∨ s.ctl.mode = .regulate) :
      refused (.resume seq []) .badState :=
    congrArg _ (respond_of_refusal (cmdResume_of_badState h) seq)
  refine ⟨fun hm hp => hresume (.inl hm), fun hm hp => ?_, fun hm hp => ?_, fun hm hp => ?_, fun hm hp => ?_,
    fun hm hp => ?_, fun hm hp => ?_, ?_⟩
  · have hpending : s.ctl.pendingOp ≠ .none := by rw [hp]; exact nofun
    exact ⟨hcommit hpending, hengageBusy hpending,
      congrArg _ (respond_of_refusal (cmdQuiesce_of_engaging hm) seq), hresume (.inr (.inl hm))⟩
  · exact ⟨hengage hp (by rw [hm]; exact nofun), hresume (.inr (.inr hm))⟩
  · have hpending : s.ctl.pendingOp ≠ .none := by rw [hp]; exact nofun
    exact ⟨hcommit hpending, hengageBusy hpending, hquiesceBusy (by rw [hm]; exact nofun) hpending,
      hresume (.inr (.inr hm))⟩
  · have hpending : s.ctl.pendingOp ≠ .none := by rw [hp]; exact nofun
    exact ⟨hcommit hpending, hengageBusy hpending, hdisengage (.inl hm),
      hquiesceBusy (by rw [hm]; exact nofun) hpending⟩
  · exact ⟨hengage hp (by rw [hm]; exact nofun), hdisengage (.inr hm),
      congrArg _ (respond_of_refusal (cmdQuiesce_of_quiesced hm hp) seq)⟩
  · have hpending : s.ctl.pendingOp ≠ .none := by rw [hp]; exact nofun
    exact ⟨hcommit hpending, hengageBusy hpending, hdisengage (.inr hm),
      hquiesceBusy (by rw [hm]; exact nofun) hpending⟩
  · exact ⟨rfl, rfl, rfl, rfl⟩

/-! ### Encoded fields (R168)

Each field's bytes are read back by a parser that takes exactly the encodings of the field's values. -/

/-- R168. `parse` reads exactly the bytes that `code` writes. -/
def Reads {α : Type} (parse : Byte → Option α) (code : α → Byte) : Prop := ∀ b a, parse b = some a ↔ b = code a

/-- R168. A field with few values: its parser is compared with its encoding byte by byte. -/
theorem reads_of_values {α : Type} {parse : Byte → Option α} {code : α → Byte} (values : List α)
    (hall : ∀ a, a ∈ values) (h : ∀ a ∈ values, ∀ b, parse b = some a ↔ b = code a) : Reads parse code :=
  fun b a => h a (hall a) b

theorem reads_flag : Reads parseFlag flagByte :=
  reads_of_values [false, true] (fun a => by cases a <;> decide) (by decide)

theorem reads_prescaler : Reads parsePrescaler Prescaler.code :=
  reads_of_values [.by1, .by2, .by16, .by128] (fun a => by cases a <;> decide) (by decide)

theorem reads_timing : Reads parseTiming Timing.code :=
  reads_of_values [.source, .follow] (fun a => by cases a <;> decide) (by decide)

theorem reads_edge : Reads parseEdge SyncEdge.code :=
  reads_of_values [.rising, .falling] (fun a => by cases a <;> decide) (by decide)

theorem reads_gap : Reads parseGap GapPolicy.code :=
  reads_of_values [.openAll, .quiet] (fun a => by cases a <;> decide) (by decide)

theorem reads_kinds : Reads parseKinds Kinds.code :=
  reads_of_values [.read, .write, .both] (fun a => by cases a <;> decide) (by decide)

theorem reads_overBudget : Reads parseOverBudget OverBudget.code :=
  reads_of_values [.hold, .lend, .refuse] (fun a => by cases a <;> decide) (by decide)

theorem reads_fullPolicy : Reads parseFullPolicy FullPolicy.code :=
  reads_of_values [.stall, .refuse] (fun a => by cases a <;> decide) (by decide)

theorem reads_streamState : Reads parseStreamState StreamState.code :=
  reads_of_values [.disabled, .active, .paused, .draining] (fun a => by cases a <;> decide) (by decide)

theorem toNat_setWidth_of_le {m w : Nat} (hm : m ≤ w) (a : BitVec m) : (BitVec.setWidth w a).toNat = a.toNat := by
  rw [BitVec.toNat_setWidth, Nat.mod_eq_of_lt (a.isLt.trans_le (Nat.pow_le_pow_right (by decide) hm))]

/-- A word whose higher bits are 0 holds the number in its lower bits. -/
theorem extractLsb'_eq_iff {m w : Nat} (hm : m ≤ w) {b : BitVec w} (hb : b.toNat < 2 ^ m) (a : BitVec m) :
    b.extractLsb' 0 m = a ↔ b = BitVec.setWidth w a := by
  rw [← BitVec.toNat_inj, ← BitVec.toNat_inj, BitVec.extractLsb'_toNat, Nat.shiftRight_zero, Nat.mod_eq_of_lt hb,
    toNat_setWidth_of_le hm]

theorem reads_narrow {m : Nat} (hm : m ≤ 8) :
    Reads (fun b => if b.toNat < 2 ^ m then some (b.extractLsb' 0 m) else none) (BitVec.setWidth 8) := by
  intro b a
  dsimp only
  by_cases hb : b.toNat < 2 ^ m
  · rw [if_pos hb, Option.some.injEq, extractLsb'_eq_iff hm hb]
  · rw [if_neg hb]
    refine ⟨nofun, ?_⟩
    rintro rfl
    rw [toNat_setWidth_of_le hm] at hb
    exact absurd a.isLt hb

theorem reads_owner : Reads parseOwner Owner.code :=
  reads_of_values [.stream, .openAll, .quiet] (fun a => by cases a <;> decide) (by decide)

theorem reads_q : Reads parseQ (BitVec.setWidth 8) := reads_narrow (m := 4) (by decide)

theorem reads_mask : Reads parseMask (BitVec.setWidth 8) := reads_narrow (m := 5) (by decide)

theorem parseStream_eq_some_iff (b : Byte) (k : StreamId) : parseStream b = some k ↔ b.toNat = k.val := by
  refine ⟨fun h => ?_, parseStream_eq_some⟩
  rw [parseStream] at h
  split at h
  · cases h
    rfl
  · cases h

theorem eq_natByte_iff (b : Byte) (k : StreamId) : b = natByte k.val ↔ b.toNat = k.val := by
  have hk : k.val < 256 := k.isLt.trans (by decide)
  rw [natByte, ← BitVec.toNat_inj, BitVec.toNat_ofNat, Nat.mod_eq_of_lt hk]

theorem reads_defaultStream : Reads parseDefaultStream streamByte := by
  intro b a
  rw [parseDefaultStream]
  cases a with
  | none =>
    by_cases hb : b = 0xFF#8
    · simp [hb, streamByte]
    · simp [hb, streamByte]
  | some k =>
    have hk : k.val < 24 := k.isLt
    by_cases hb : b = 0xFF#8
    · subst hb
      rw [if_pos rfl, streamByte, eq_natByte_iff]
      exact ⟨nofun, fun h => absurd h (by simp; omega)⟩
    · rw [if_neg hb, streamByte, eq_natByte_iff, Option.map_eq_some_iff, ← parseStream_eq_some_iff]
      simp

theorem inRange_eq_some_iff (lo hi : Nat) (b a : Byte) :
    inRange lo hi b = some a ↔ b = a ∧ lo ≤ a.toNat ∧ a.toNat ≤ hi := by
  rw [inRange, Option.ite_none_right_eq_some, Option.some.injEq]
  constructor
  · rintro ⟨hrange, rfl⟩
    exact ⟨rfl, hrange⟩
  · rintro ⟨rfl, hrange⟩
    exact ⟨hrange, rfl⟩

/-! ### Selected values -/

theorem pick_some {α : Type} {sel : Bool} {v : Option α} {a : α} (h : sel = true → v = some a) (old : α) :
    pick sel v old = if sel = true then a else old := by
  cases sel with
  | false => rfl
  | true => simp [pick, h rfl]

theorem fits_some {α : Type} {sel : Bool} {v : Option α} {a : α} (h : sel = true → v = some a) :
    fits sel v = true := by
  cases sel with
  | false => rfl
  | true => simp [fits, h rfl]

/-- A selected value that passes its check is the one that the write takes. -/
theorem eq_some_pick {α : Type} {sel : Bool} {v : Option α} (hfits : fits sel v = true) (old : α) (hsel : sel = true) :
    v = some (pick sel v old) := by
  subst hsel
  cases v with
  | none => cases hfits
  | some a => rfl

/-! ### Bytes of a number (R168) -/

theorem foldl_bytes_injective {n m : Nat} {l l' : List Byte} (hlength : l.length = l'.length)
    (h : l.foldl (fun n b => 256 * n + b.toNat) n = l'.foldl (fun n b => 256 * n + b.toNat) m) : n = m ∧ l = l' := by
  induction l generalizing n m l' with
  | nil =>
    rw [List.length_eq_zero_iff.1 hlength.symm] at h ⊢
    exact ⟨h, rfl⟩
  | cons a l ih =>
    cases l' with
    | nil => cases hlength
    | cons b l' =>
      obtain ⟨hhead, rfl⟩ := ih (Nat.succ.inj hlength) h
      dsimp only at hhead
      have ha := a.isLt
      have hb := b.isLt
      have hab : a = b := BitVec.eq_of_toNat_eq (by omega)
      exact ⟨by omega, by rw [hab]⟩

/-- As many bytes carry the same number only when they are the same. -/
theorem beNat_inj {l l' : List Byte} (hlength : l.length = l'.length) : beNat l = beNat l' ↔ l = l' :=
  ⟨fun h => (foldl_bytes_injective hlength h).2, fun h => h ▸ rfl⟩

theorem toNat_append_byte {n : Nat} (x : BitVec n) (b : Byte) : (x ++ b).toNat = 256 * x.toNat + b.toNat := by
  rw [BitVec.toNat_append, ← Nat.shiftLeft_add_eq_or_of_lt b.isLt, Nat.shiftLeft_eq]
  omega

theorem beNat_pair (a b : Byte) : beNat [a, b] = (a ++ b).toNat := by
  rw [toNat_append_byte]
  simp [beNat]

theorem append_eq_iff_bytes16 (a b : Byte) (w : BitVec 16) : [a, b] = bytes16 w ↔ a ++ b = w := by
  rw [← beNat_inj (l := [a, b]) (l' := bytes16 w) rfl, beNat_bytes16, ← BitVec.toNat_inj, beNat_pair]

theorem append_eq_iff_bytes24 (a b c : Byte) (w : BitVec 24) : [a, b, c] = bytes24 w ↔ a ++ b ++ c = w := by
  rw [← beNat_inj (l := [a, b, c]) (l' := bytes24 w) rfl, beNat_bytes24, ← BitVec.toNat_inj,
    toNat_append_byte, toNat_append_byte]
  simp [beNat]

theorem append_eq_iff_bytes32 (a b c d : Byte) (w : BitVec 32) : [a, b, c, d] = bytes32 w ↔ a ++ b ++ c ++ d = w := by
  rw [← beNat_inj (l := [a, b, c, d]) (l' := bytes32 w) rfl, beNat_bytes32, ← BitVec.toNat_inj,
    toNat_append_byte, toNat_append_byte, toNat_append_byte]
  simp [beNat]

/-! ### The settings block (Table 12-4) -/

theorem carries_settings_iff (sel : BitVec 16) (new : Settings)
    (ps ts fo se q st1 st0 gp ds rt1 rt0 am : Byte) :
    carries settingsLayout sel new.bytes [ps, ts, fo, se, q, st1, st0, gp, ds, rt1, rt0, am] ↔
      (sel.getLsbD 0 = true → ps = new.prescaler.code) ∧ (sel.getLsbD 1 = true → ts = new.timing.code) ∧
      (sel.getLsbD 2 = true → fo = flagByte new.fsyncOut) ∧ (sel.getLsbD 3 = true → se = new.edge.code) ∧
      (sel.getLsbD 4 = true → q = BitVec.setWidth 8 new.q) ∧
      (sel.getLsbD 5 = true → st1 ++ st0 = new.syncTimeout) ∧ (sel.getLsbD 6 = true → gp = new.gap.code) ∧
      (sel.getLsbD 7 = true → ds = streamByte new.defaultStream) ∧
      (sel.getLsbD 8 = true → rt1 ++ rt0 = new.responseTimeout) ∧
      (sel.getLsbD 9 = true → am = BitVec.setWidth 8 new.mask) := by
  rw [← append_eq_iff_bytes16, ← append_eq_iff_bytes16]
  simp only [carries, settingsLayout, Settings.bytes, bytes16, List.forall_mem_cons, List.cons_append, List.nil_append,
    List.drop_succ_cons, List.drop_zero, List.take_succ_cons, List.take_zero, List.cons.injEq, and_true,
    List.not_mem_nil, false_implies, implies_true]

/-- R167. Arguments in form: the write takes exactly the selected settings. -/
theorem parseSettingsWrite_of_carries {c new : Settings} {sel : BitVec 16} {args : List Byte}
    (hlength : args.length = 14) (hsel : field args 0 2 = sel.toNat) (hreserved : sel.toNat < 1024)
    (hmask : field args 13 1 < 32) (hcarries : carries settingsLayout sel new.bytes (args.drop 2)) :
    parseSettingsWrite c args = some { sel := sel, apply := Settings.choose sel new c } := by
  match args, hlength with
  | [s1, s0, ps, ts, fo, se, q, st1, st0, gp, ds, rt1, rt0, am], _ =>
    have hpair : s1 ++ s0 = sel := BitVec.eq_of_toNat_eq ((beNat_pair s1 s0).symm.trans hsel)
    subst hpair
    have hs1 : s1.toNat < 4 := by
      have hvalue := beNat_pair s1 s0
      simp only [beNat, List.foldl_cons, List.foldl_nil] at hvalue
      omega
    have ham : am.toNat < 32 := (beNat_singleton am).symm.trans_lt hmask
    obtain ⟨hps, hts, hfo, hse, hq, hst, hgp, hds, hrt, ham'⟩ := (carries_settings_iff ..).1 hcarries
    replace hps := fun h => (reads_prescaler ps _).2 (hps h)
    replace hts := fun h => (reads_timing ts _).2 (hts h)
    replace hfo := fun h => (reads_flag fo _).2 (hfo h)
    replace hse := fun h => (reads_edge se _).2 (hse h)
    replace hq := fun h => (reads_q q _).2 (hq h)
    replace hst := fun h => congrArg some (hst h)
    replace hgp := fun h => (reads_gap gp _).2 (hgp h)
    replace hds := fun h => (reads_defaultStream ds _).2 (hds h)
    replace hrt := fun h => congrArg some (hrt h)
    replace ham' := fun h => (reads_mask am _).2 (ham' h)
    rw [parseSettingsWrite, if_pos ⟨hs1, ham, fits_some hps, fits_some hts, fits_some hfo, fits_some hse, fits_some hq,
      fits_some hgp, fits_some hds⟩, pick_some hps, pick_some hts, pick_some hfo, pick_some hse, pick_some hq,
      pick_some hst, pick_some hgp, pick_some hds, pick_some hrt, pick_some ham']
    rfl

/-- R167, R168. What passes the check is in form, and carries the selected settings of the write. -/
theorem parseSettingsWrite_form {c : Settings} {args : List Byte} {w : SettingsWrite}
    (h : parseSettingsWrite c args = some w) :
    args.length = 14 ∧ field args 0 2 = w.sel.toNat ∧ w.sel.toNat < 1024 ∧ field args 13 1 < 32 ∧
      carries settingsLayout w.sel w.apply.bytes (args.drop 2) := by
  unfold parseSettingsWrite at h
  split at h
  · next s1 s0 ps ts fo se q st1 st0 gp ds rt1 rt0 am =>
    simp only [Option.ite_none_right_eq_some, Option.some.injEq] at h
    obtain ⟨⟨hs1, ham, hps, hts, hfo, hse, hq, hgp, hds⟩, rfl⟩ := h
    have hmask : fits ((s1 ++ s0).getLsbD 9) (parseMask am) = true := by simp [fits, parseMask, ham]
    refine ⟨rfl, beNat_pair s1 s0, ?_, (beNat_singleton am).trans_lt ham,
      (carries_settings_iff ..).2 ⟨?_, ?_, ?_, ?_, ?_, ?_, ?_, ?_, ?_, ?_⟩⟩
    · have hvalue := beNat_pair s1 s0
      have hs0 := s0.isLt
      simp only [beNat, List.foldl_cons, List.foldl_nil] at hvalue
      dsimp only
      omega
    · exact fun hsel => (reads_prescaler ps _).1 (eq_some_pick hps _ hsel)
    · exact fun hsel => (reads_timing ts _).1 (eq_some_pick hts _ hsel)
    · exact fun hsel => (reads_flag fo _).1 (eq_some_pick hfo _ hsel)
    · exact fun hsel => (reads_edge se _).1 (eq_some_pick hse _ hsel)
    · exact fun hsel => (reads_q q _).1 (eq_some_pick hq _ hsel)
    · exact fun hsel => by dsimp only; rw [pick, if_pos hsel]; rfl
    · exact fun hsel => (reads_gap gp _).1 (eq_some_pick hgp _ hsel)
    · exact fun hsel => (reads_defaultStream ds _).1 (eq_some_pick hds _ hsel)
    · exact fun hsel => by dsimp only; rw [pick, if_pos hsel]; rfl
    · exact fun hsel => (reads_mask am _).1 (eq_some_pick hmask _ hsel)
  · cases h

/-! ### READ_SETTINGS -/

theorem exec_readSettings (seq : Byte) (args : List Byte) (s : State) :
    exec (.readSettings seq args) s = .next (respond seq true (cmdReadSettings args) s) := rfl

theorem beNat_globalLatchByte (early refuse : Bool) :
    beNat [0#6 ++ BitVec.ofBool early ++ BitVec.ofBool refuse] = flagNat refuse + 2 * flagNat early := by
  revert early refuse
  decide

theorem beNat_streamByte (k : Option StreamId) :
    beNat [streamByte k] = (match k with | some k => k.val | none => 255) := by
  cases k with
  | none => rfl
  | some k => exact beNat_natByte (k.isLt.trans (by decide))

theorem settingsPayload_reported (s : State) : SettingsReported s.settings s.events (settingsPayload s) := by
  simp only [SettingsReported, settingsPayload, Settings.bytes, bytes16, field, List.cons_append, List.nil_append,
    List.drop_succ_cons, List.take_succ_cons, List.drop_zero, List.take_zero]
  generalize s.settings = c
  refine ⟨rfl, beNat_singleton c.prescaler.code, beNat_singleton c.timing.code, beNat_flagByte c.fsyncOut,
    beNat_singleton c.edge.code, ?_, beNat_bytes16 c.syncTimeout, beNat_singleton c.gap.code,
    beNat_streamByte c.defaultStream, beNat_bytes16 c.responseTimeout, ?_, beNat_globalLatchByte _ _⟩
  · rw [beNat_singleton, toNat_setWidth_of_le (by decide)]
  · rw [beNat_singleton, toNat_setWidth_of_le (by decide)]

/-- Settles O10: the command answers the payload of the state as it is. -/
theorem readSettingsReportsTheSettings : Obligations.ReadSettingsReportsTheSettings := by
  refine ⟨fun s₀ seq => ?_, fun s₀ seq b args => ?_, settingsPayload_reported⟩
  · rw [exec_readSettings, respond_eq_answer]
    rfl
  · rw [exec_readSettings, respond_eq_answer]
    rfl

/-! ### WRITE_SETTINGS -/

theorem exec_writeSettings (seq : Byte) (args : List Byte) (s : State) :
    exec (.writeSettings seq args) s = .next (respond seq true (cmdWriteSettings args) s) := rfl

theorem cmdWriteSettings_of_none {args : List Byte} {s : State} (h : parseSettingsWrite s.settings args = none) :
    cmdWriteSettings args s = refusal .badArgument s := by
  simp only [cmdWriteSettings, h]

theorem cmdWriteSettings_of_some {args : List Byte} {s : State} {w : SettingsWrite}
    (h : parseSettingsWrite s.settings args = some w) :
    cmdWriteSettings args s =
      if w.needsStopped = true ∧ s.timer.state ≠ .stopped then refusal .badState s
      else accepted (settingsPayload (writeSettings w s)) (settingsEvents w (writeSettings w s)) := by
  simp only [cmdWriteSettings, h, Bool.and_eq_true, Bool.not_eq_true', decide_eq_false_iff_not]

/-- R105. The expiries in order of the tags, each as its own row. -/
theorem expireAll_eq_run (s : State) :
    expireAll s = (List.finRange 48).foldl (fun u e => run (.responseTimeoutExpiry e) u) s := rfl

theorem settingsEvents_eq (w : SettingsWrite) (s : State) :
    settingsEvents w s =
      let s2 := if w.sel.getLsbD 5 = true ∧ s.timer.state = .waitSync ∧ s.settings.syncTimeout ≠ 0#16
          ∧ s.settings.syncTimeout.toNat ≤ s.timer.waitCount then expireSync s else s
      let s3 := if w.sel.getLsbD 8 = true then expireAll s2 else s2
      if w.sel.getLsbD 7 = true then reevaluate s3 else s3 := by
  simp only [settingsEvents, expireSyncIfDue, ← syncTimeoutDue_iff, ite_and]

/-- Settles O11: the parser decides the form, the timer state the write; its events are those of the model's order. -/
theorem writeSettingsWritesTheSelection : Obligations.WriteSettingsWritesTheSelection := by
  intro s₀ seq args s
  refine ⟨fun sel new hlength hsel hreserved hmask hcarries => ?_, fun hform => ?_,
    fun t => ⟨rfl, expireAll_eq_run t, fun e => rfl⟩⟩
  · have hcmd := cmdWriteSettings_of_some (s := s)
      (parseSettingsWrite_of_carries hlength hsel hreserved hmask hcarries)
    refine ⟨fun hneeds hrunning => ?_, fun hallowed => ?_⟩
    · rw [if_pos ⟨hneeds, hrunning⟩] at hcmd
      rw [exec_writeSettings, respond_of_refusal hcmd]
    · have hwrite : ¬ (SettingsWrite.needsStopped ⟨sel, Settings.choose sel new s.settings⟩ = true ∧
          s.timer.state ≠ .stopped) :=
        fun ⟨hneeds, hrunning⟩ => hallowed.elim (fun hfree => Bool.false_ne_true (hfree.symm.trans hneeds)) hrunning
      rw [if_neg hwrite, settingsEvents_eq] at hcmd
      rw [exec_writeSettings, respond_of_accepted hcmd]
      rfl
  · have hnone : parseSettingsWrite s.settings args = none := by
      by_contra hsome
      obtain ⟨w, hw⟩ := Option.ne_none_iff_exists'.1 hsome
      obtain ⟨hlength, hsel, hreserved, hmask, hcarries⟩ := parseSettingsWrite_form hw
      obtain h | h | h | h := hform
      · exact h hlength
      · omega
      · omega
      · exact h _ _ hsel hcarries
    rw [exec_writeSettings, respond_of_refusal (cmdWriteSettings_of_none hnone)]

/-! ### Crossings (R75) -/

theorem crossingDue_markedLate (s : State) (k : StreamId) (d : Descriptor) :
    crossingDue s k { d with late := true } = false := by simp [crossingDue]

theorem markLate_append {p : Descriptor → Bool} {front back : List Descriptor} {d : Descriptor}
    (hfront : ∀ f ∈ front, p f = false) (hd : p d = true) :
    markLate p (front ++ d :: back) = front ++ { d with late := true } :: back := by
  induction front with
  | nil => rw [List.nil_append, markLate, if_pos hd]; rfl
  | cons f front ih =>
    obtain ⟨hf, hfront⟩ := List.forall_mem_cons.1 hfront
    rw [List.cons_append, markLate, if_neg (Bool.eq_false_iff.1 hf), ih hfront]
    rfl

/-- Marking the first request that is due takes it from those that are due. -/
theorem filter_markLate {p : Descriptor → Bool} (hp : ∀ d : Descriptor, p { d with late := true } = false)
    (q : List Descriptor) : (markLate p q).filter p = (q.filter p).tail := by
  induction q with
  | nil => rfl
  | cons d q ih =>
    rw [markLate]
    split
    · next hd => rw [List.filter_cons_of_neg (Bool.eq_false_iff.1 (hp d)), List.filter_cons_of_pos hd, List.tail_cons]
    · next hd => rw [List.filter_cons_of_neg hd, List.filter_cons_of_neg hd, ih]

theorem queueOf_cross (k : StreamId) (d : Descriptor) (s : State) :
    queueOf (cross k d s) k = markLate (crossingDue s k) (queueOf s k) := by
  have hset : queueOf (setQueue k (markLate (crossingDue s k) (queueOf s k)) s) k =
      markLate (crossingDue s k) (queueOf s k) := Table.get_set_self ..
  rw [cross]
  split
  · exact hset
  · exact hset

/-- R75. A crossing leaves what decides the next one. -/
theorem crossingDue_cross (k : StreamId) (d : Descriptor) (s : State) : crossingDue (cross k d s) k = crossingDue s k := by
  have hdeadline : ((cross k d s).streams.get k).deadline = (s.streams.get k).deadline := by
    rw [cross]
    split
    · rfl
    · rw [updStream, State.withStreams_streams, Table.get_set_self]
      rfl
  funext f
  rw [crossingDue, crossingDue, hdeadline, cross_timer]

/-- R6, R75. As many crossings as are due take the due requests of the queue, oldest first. -/
theorem iterate_crossIn {k : StreamId} {n : Nat} {s : State}
    (hn : ((queueOf s k).filter (crossingDue s k)).length ≤ n) :
    (crossIn k)^[n] s = ((queueOf s k).filter (crossingDue s k)).foldl (fun t d => cross k d t) s := by
  induction n generalizing s with
  | zero => rw [List.length_eq_zero_iff.1 (Nat.le_zero.1 hn)]; rfl
  | succ n ih =>
    cases hdue : (queueOf s k).filter (crossingDue s k) with
    | nil =>
      have hnone : firstDue s k = none := by rw [firstDue, ← List.head?_filter, hdue]; rfl
      have hfixed : crossIn k s = s := by rw [crossIn, hnone]
      exact Function.iterate_fixed hfixed _
    | cons d rest =>
      have hsome : firstDue s k = some d := by rw [firstDue, ← List.head?_filter, hdue]; rfl
      have hcross : crossIn k s = cross k d s := by rw [crossIn, hsome]
      have hrest : (queueOf (cross k d s) k).filter (crossingDue (cross k d s) k) = rest := by
        rw [crossingDue_cross, queueOf_cross, filter_markLate (crossingDue_markedLate s k), hdue, List.tail_cons]
      rw [hdue, List.length_cons] at hn
      rw [Function.iterate_succ_apply, hcross, ih (by rw [hrest]; omega), hrest, List.foldl_cons]

/-! ### The configuration block of a stream (Table 12-5) -/

theorem carries_stream_iff (sel : BitVec 16) (new : StreamEntry)
    (i3 i2 i1 i0 b2 b1 b0 l2 l1 l0 kd r1 r0 ca ob fp os ql rs d1 d0 mf : Byte) :
    carries streamLayout sel new.configBytes
        [i3, i2, i1, i0, b2, b1, b0, l2, l1, l0, kd, r1, r0, ca, ob, fp, os, ql, rs, d1, d0, mf] ↔
      (sel.getLsbD 0 = true → i3 ++ i2 ++ i1 ++ i0 = new.initiatorSet) ∧
      (sel.getLsbD 1 = true → b2 ++ b1 ++ b0 = new.pageBase) ∧ (sel.getLsbD 2 = true → l2 ++ l1 ++ l0 = new.pageLimit) ∧
      (sel.getLsbD 3 = true → kd = new.kinds.code) ∧ (sel.getLsbD 4 = true → r1 ++ r0 = new.reload) ∧
      (sel.getLsbD 5 = true → ca = flagByte new.carry) ∧ (sel.getLsbD 6 = true → ob = new.overBudget.code) ∧
      (sel.getLsbD 7 = true → fp = new.fullPolicy.code) ∧ (sel.getLsbD 8 = true → os = flagByte new.openShare) ∧
      (sel.getLsbD 9 = true → ql = new.queueLimit) ∧ (sel.getLsbD 10 = true → rs = new.reserve) ∧
      (sel.getLsbD 11 = true → d1 ++ d0 = new.deadline) ∧ (sel.getLsbD 12 = true → mf = new.maxInFlight) := by
  rw [← append_eq_iff_bytes16, ← append_eq_iff_bytes16, ← append_eq_iff_bytes24, ← append_eq_iff_bytes24,
    ← append_eq_iff_bytes32]
  simp only [carries, streamLayout, StreamEntry.configBytes, bytes16, bytes24, bytes32, List.forall_mem_cons,
    List.cons_append, List.nil_append, List.drop_succ_cons, List.drop_zero, List.take_succ_cons, List.take_zero,
    List.cons.injEq, and_true, List.not_mem_nil, false_implies, implies_true]

theorem ite_pick {α : Type} (sel : Bool) (v : Option α) (old : α) :
    (if sel = true then pick sel v old else old) = pick sel v old := by cases sel <;> rfl

/-- R3, first stage. Arguments in form: the write takes exactly the selected fields. -/
theorem parseStreamWrite_of_carries {t : Table numStreams StreamEntry} {k : StreamId} {new : StreamEntry}
    {sel : BitVec 16} {args : List Byte} (hlength : args.length = 25) (hstream : field args 0 1 = k.val)
    (hsel : field args 1 2 = sel.toNat) (hreserved : sel.toNat < 8192)
    (hcarries : carries streamLayout sel new.configBytes (args.drop 3))
    (hranges : (StreamEntry.choose sel new (t.get k)).inRanges sel) :
    parseStreamWrite t args = some { stream := k, sel := sel, entry := StreamEntry.choose sel new (t.get k) } := by
  match args, hlength with
  | [n, s1, s0, i3, i2, i1, i0, b2, b1, b0, l2, l1, l0, kd, r1, r0, ca, ob, fp, os, ql, rs, d1, d0, mf], _ =>
    have hn : parseStream n = some k := parseStream_eq_some ((beNat_singleton n).symm.trans hstream)
    have hpair : s1 ++ s0 = sel := BitVec.eq_of_toNat_eq ((beNat_pair s1 s0).symm.trans hsel)
    subst hpair
    have hs1 : s1.toNat < 32 := by
      rw [toNat_append_byte] at hreserved
      omega
    obtain ⟨hqlRange, hrsRange, hmfRange, hlimit⟩ := hranges
    obtain ⟨hi, hb, hl, hkd, hr, hca, hob, hfp, hos, hql, hrs, hd, hmf⟩ := (carries_stream_iff ..).1 hcarries
    replace hi := fun h => congrArg some (hi h)
    replace hb := fun h => congrArg some (hb h)
    replace hl := fun h => congrArg some (hl h)
    replace hkd := fun h => (reads_kinds kd _).2 (hkd h)
    replace hr := fun h => congrArg some (hr h)
    replace hca := fun h => (reads_flag ca _).2 (hca h)
    replace hob := fun h => (reads_overBudget ob _).2 (hob h)
    replace hfp := fun h => (reads_fullPolicy fp _).2 (hfp h)
    replace hos := fun h => (reads_flag os _).2 (hos h)
    replace hd := fun h => congrArg some (hd h)
    have hql (h : (s1 ++ s0).getLsbD 9 = true) : inRange 1 128 ql = some new.queueLimit := by
      have hrange := hqlRange h
      rw [StreamEntry.choose, if_pos h] at hrange
      exact (inRange_eq_some_iff 1 128 ql _).2 ⟨hql h, hrange⟩
    have hrs (h : (s1 ++ s0).getLsbD 10 = true) : inRange 0 128 rs = some new.reserve := by
      have hrange := hrsRange h
      rw [StreamEntry.choose, if_pos h] at hrange
      exact (inRange_eq_some_iff 0 128 rs _).2 ⟨hrs h, Nat.zero_le _, hrange⟩
    have hmf (h : (s1 ++ s0).getLsbD 12 = true) : inRange 1 48 mf = some new.maxInFlight := by
      have hrange := hmfRange h
      rw [StreamEntry.choose, if_pos h] at hrange
      exact (inRange_eq_some_iff 1 48 mf _).2 ⟨hmf h, hrange⟩
    simp only [StreamEntry.choose] at hlimit
    simp only [parseStreamWrite, hn, pick_some hi, pick_some hb, pick_some hl, pick_some hkd, pick_some hr,
      pick_some hca, pick_some hob, pick_some hfp, pick_some hos, pick_some hql, pick_some hrs, pick_some hd,
      pick_some hmf]
    rw [if_pos]
    · rfl
    · exact ⟨hs1, fits_some hkd, fits_some hca, fits_some hob, fits_some hfp, fits_some hos, fits_some hql,
        fits_some hrs, fits_some hmf, hlimit⟩

/-- R3, R168. What passes the first stage is in form and in range, and carries the selected fields of the write. -/
theorem parseStreamWrite_form {t : Table numStreams StreamEntry} {args : List Byte} {w : StreamWrite}
    (h : parseStreamWrite t args = some w) :
    args.length = 25 ∧ field args 0 1 = w.stream.val ∧ field args 1 2 = w.sel.toNat ∧ w.sel.toNat < 8192 ∧
      carries streamLayout w.sel w.entry.configBytes (args.drop 3) ∧
      (StreamEntry.choose w.sel w.entry (t.get w.stream)).inRanges w.sel := by
  unfold parseStreamWrite at h
  split at h
  · next n s1 s0 i3 i2 i1 i0 b2 b1 b0 l2 l1 l0 kd r1 r0 ca ob fp os ql rs d1 d0 mf =>
    split at h
    · cases h
    · next k hn =>
      simp only [Option.ite_none_right_eq_some, Option.some.injEq] at h
      obtain ⟨⟨hs1, hkd, hca, hob, hfp, hos, hql, hrs, hmf, hlimit⟩, rfl⟩ := h
      have hqlValue (hsel) := (inRange_eq_some_iff ..).1 (eq_some_pick hql (t.get k).queueLimit hsel)
      have hrsValue (hsel) := (inRange_eq_some_iff ..).1 (eq_some_pick hrs (t.get k).reserve hsel)
      have hmfValue (hsel) := (inRange_eq_some_iff ..).1 (eq_some_pick hmf (t.get k).maxInFlight hsel)
      refine ⟨rfl, (beNat_singleton n).trans ((parseStream_eq_some_iff n k).1 hn), beNat_pair s1 s0, ?_,
        (carries_stream_iff ..).2 ⟨?_, ?_, ?_, ?_, ?_, ?_, ?_, ?_, ?_, ?_, ?_, ?_, ?_⟩, ?_⟩
      · have hs0 := s0.isLt
        dsimp only
        rw [toNat_append_byte]
        omega
      · exact fun hsel => by dsimp only; rw [pick, if_pos hsel]; rfl
      · exact fun hsel => by dsimp only; rw [pick, if_pos hsel]; rfl
      · exact fun hsel => by dsimp only; rw [pick, if_pos hsel]; rfl
      · exact fun hsel => (reads_kinds kd _).1 (eq_some_pick hkd _ hsel)
      · exact fun hsel => by dsimp only; rw [pick, if_pos hsel]; rfl
      · exact fun hsel => (reads_flag ca _).1 (eq_some_pick hca _ hsel)
      · exact fun hsel => (reads_overBudget ob _).1 (eq_some_pick hob _ hsel)
      · exact fun hsel => (reads_fullPolicy fp _).1 (eq_some_pick hfp _ hsel)
      · exact fun hsel => (reads_flag os _).1 (eq_some_pick hos _ hsel)
      · exact fun hsel => (hqlValue hsel).1
      · exact fun hsel => (hrsValue hsel).1
      · exact fun hsel => by dsimp only; rw [pick, if_pos hsel]; rfl
      · exact fun hsel => (hmfValue hsel).1
      · simp only [StreamEntry.inRanges, StreamEntry.choose, ite_pick]
        exact ⟨fun hsel => (hqlValue hsel).2, fun hsel => (hrsValue hsel).2.2, fun hsel => (hmfValue hsel).2, hlimit⟩
  · cases h

/-! ### WRITE_STREAM -/

theorem exec_writeStream (seq : Byte) (args : List Byte) (s : State) :
    exec (.writeStream seq args) s = .next (respond seq true (cmdWriteStream args) s) := rfl

theorem cmdWriteStream_of_none {args : List Byte} {s : State} (h : parseStreamWrite s.streams args = none) :
    cmdWriteStream args s = refusal .badArgument s := by
  simp only [cmdWriteStream, h]

theorem cmdWriteStream_of_some {args : List Byte} {s : State} {w : StreamWrite}
    (h : parseStreamWrite s.streams args = some w) :
    cmdWriteStream args s =
      if streamWriteRefused s w = true then refusal .badState s
      else accepted (streamPayload (writeFields w s) w.stream) (reevaluate (writeFields w s)) := by
  simp only [cmdWriteStream, h]

/-- R3, R4, R5. The second stage, with its sums written out. -/
theorem streamWriteRefused_iff (s : State) (w : StreamWrite) :
    streamWriteRefused s w = true ↔
      ((s.streams.get w.stream).state ≠ .disabled ∧
        (w.sel.getLsbD 0 || w.sel.getLsbD 1 || w.sel.getLsbD 2 || w.sel.getLsbD 3) = true) ∨
      (w.sel.getLsbD 9 = true ∧ w.entry.queueLimit.toNat < (queueOf s w.stream).length) ∨
      (w.sel.getLsbD 10 = true ∧
        (128 < ((List.finRange 24).map fun j => ((s.streams.set w.stream w.entry).get j).reserve.toNat).sum ∨
          freeDescriptors s + s.store.pass.length <
            ((List.finRange 24).map fun j =>
              ((s.streams.set w.stream w.entry).get j).reserve.toNat - (queueOf s j).length).sum)) := by
  simp only [streamWriteRefused, writesMatching, Bool.or_eq_true, Bool.and_eq_true, decide_eq_true_iff, or_assoc]
  rfl

/-- R6. A write of the deadline takes the queued requests that are past it, oldest first. -/
theorem crossWritten_eq (w : StreamWrite) (s : State) :
    crossWritten w s =
      if w.sel.getLsbD 11 = true then
        ((queueOf s w.stream).filter (crossingDue s w.stream)).foldl (fun t d => cross w.stream d t) s
      else s := by
  rw [crossWritten, queuedCount, iterate_crossIn (List.length_filter_le ..)]

theorem clamped_deadline (w : StreamWrite) : w.clamped.deadline = w.entry.deadline := by
  rw [StreamWrite.clamped]
  split <;> rfl

theorem writeFields_eq (w : StreamWrite) (s : State) :
    writeFields w s =
      if w.sel.getLsbD 11 = true then
        ((queueOf s w.stream).filter fun d => w.entry.deadline ≠ 0#16 && !d.late &&
          w.entry.deadline.toNat ≤ (s.timer.tick - d.admTick).toNat).foldl (fun t d => cross w.stream d t)
          (s.withStreams (s.streams.set w.stream w.clamped))
      else s.withStreams (s.streams.set w.stream w.clamped) := by
  have hdue : crossingDue (s.withStreams (s.streams.set w.stream w.clamped)) w.stream = fun d =>
      w.entry.deadline ≠ 0#16 && !d.late && w.entry.deadline.toNat ≤ (s.timer.tick - d.admTick).toNat := by
    funext d
    rw [crossingDue, State.withStreams_streams, Table.get_set_self, clamped_deadline]
    rfl
  rw [writeFields, crossWritten_eq, hdue]
  rfl

theorem streamPayload_configBytes (s : State) (k : StreamId) :
    ((streamPayload s k).drop 2).take 22 = (s.streams.get k).configBytes := by
  simp only [streamPayload, StreamEntry.configBytes, bytes16, bytes24, bytes32, List.cons_append, List.nil_append,
    List.drop_succ_cons, List.take_succ_cons, List.drop_zero, List.take_zero]

/-- Settles O13: the parser is the first stage, `streamWriteRefused` the second, and the crossings are those due. -/
theorem writeStreamWritesTheSelection : Obligations.WriteStreamWritesTheSelection := by
  intro s₀ seq args s
  refine ⟨?_, fun hform => ?_, streamPayload_configBytes⟩
  · intro k sel new e e1 after refusedByState hlength hstream hsel hreserved hcarries hranges
    have hcmd := cmdWriteStream_of_some (s := s)
      (parseStreamWrite_of_carries hlength hstream hsel hreserved hcarries hranges)
    have hrefused : streamWriteRefused s ⟨k, sel, e1⟩ = true ↔ refusedByState := streamWriteRefused_iff s ⟨k, sel, e1⟩
    refine ⟨fun h => ?_, fun h => ?_⟩
    · rw [if_pos (hrefused.2 h)] at hcmd
      rw [exec_writeStream, respond_of_refusal hcmd]
    · rw [if_neg (mt hrefused.1 h), writeFields_eq] at hcmd
      rw [exec_writeStream, respond_of_accepted hcmd]
      rfl
  · have hnone : parseStreamWrite s.streams args = none := by
      by_contra hsome
      obtain ⟨w, hw⟩ := Option.ne_none_iff_exists'.1 hsome
      obtain ⟨hlength, hstream, hsel, hreserved, hcarries, hranges⟩ := parseStreamWrite_form hw
      have hk : w.stream.val < 24 := w.stream.isLt
      obtain h | h | h | h := hform
      · exact h hlength
      · omega
      · omega
      · exact h _ _ _ hstream hsel hcarries hranges
    rw [exec_writeStream, respond_of_refusal (cmdWriteStream_of_none hnone)]

/-! ### SET_STREAM_STATE -/

theorem exec_setStreamState (seq : Byte) (args : List Byte) (s : State) :
    exec (.setStreamState seq args) s = .next (respond seq true (cmdSetStreamState args) s) := rfl

theorem cmdSetStreamState_of_refused {n b : Byte} {k : StreamId} {target : StreamState} {st : Status} {s : State}
    (hn : n.toNat = k.val) (hb : b = target.code) (h : transition (s.streams.get k) target = .refused st) :
    cmdSetStreamState [n, b] s = refusal st s := by
  simp only [cmdSetStreamState, parseStream_eq_some hn, (reads_streamState b target).2 hb, h]

/-- R8. A transition that is not refused changes the stream's state alone, with what may follow. -/
theorem cmdSetStreamState_of_taken {n b : Byte} {k : StreamId} {target : StreamState} {t : Transition} {s s1 : State}
    (hn : n.toNat = k.val) (hb : b = target.code) (h : transition (s.streams.get k) target = t)
    (hs1 : changeStream k target t s = s1) (ht : ∀ st, t ≠ .refused st) :
    cmdSetStreamState [n, b] s = accepted [(s1.streams.get k).state.code] (reevaluate (quiesceIfDue s1)) := by
  subst hs1
  simp only [cmdSetStreamState, parseStream_eq_some hn, (reads_streamState b target).2 hb, h]
  cases t with
  | refused st => exact absurd rfl (ht st)
  | keep => rfl
  | enable => rfl
  | move => rfl
  | close => rfl

theorem cmdSetStreamState_of_form {args : List Byte}
    (h : args.length ≠ 2 ∨ ∃ n b, args = [n, b] ∧ (24 ≤ n.toNat ∨ 4 ≤ b.toNat)) (s : State) :
    cmdSetStreamState args s = refusal .badArgument s := by
  obtain hlength | ⟨n, b, rfl, hn | hb⟩ := h
  · match args, hlength with
    | [], _ => rfl
    | [_], _ => rfl
    | _ :: _ :: _ :: _, _ => rfl
  · simp only [cmdSetStreamState, parseStream_eq_none hn]
  · have hnone : parseStreamState b = none := by
      by_contra hsome
      obtain ⟨st, hst⟩ := Option.ne_none_iff_exists'.1 hsome
      rw [(reads_streamState b st).1 hst] at hb
      cases st <;> exact absurd hb (by decide)
    cases hstream : parseStream n <;> simp only [cmdSetStreamState, hstream, hnone]

/-- R9. An enable needs an initiator set and a page window. -/
theorem enablable_iff (e : StreamEntry) :
    e.enablable = true ↔ e.initiatorSet ≠ 0#32 ∧ e.pageBase.toNat ≤ e.pageLimit.toNat := by
  simp [StreamEntry.enablable]

theorem transition_of_enable {e : StreamEntry} {target : StreamState} (hstate : e.state = .disabled)
    (htarget : target = .active ∨ target = .paused) :
    transition e target = if e.enablable then .enable else .refused .badArgument := by
  rcases htarget with rfl | rfl <;> simp only [transition, hstate]

theorem transition_of_keep {e : StreamEntry} {target : StreamState}
    (h : e.state = target ∨ (e.state = .draining ∧ target = .disabled)) : transition e target = .keep := by
  rcases h with h | ⟨h, rfl⟩
  · cases target <;> simp only [transition, h]
  · simp only [transition, h]

theorem transition_of_move {e : StreamEntry} {target : StreamState}
    (h : (e.state = .active ∧ target = .paused) ∨ (e.state = .paused ∧ target = .active) ∨
      (e.state = .draining ∧ target = .active)) : transition e target = .move := by
  obtain ⟨h, rfl⟩ | ⟨h, rfl⟩ | ⟨h, rfl⟩ := h <;> simp only [transition, h]

theorem transition_of_close {e : StreamEntry} {target : StreamState} (hstate : e.state = .active ∨ e.state = .paused)
    (htarget : target = .draining ∨ target = .disabled) : transition e target = .close := by
  rcases hstate with hstate | hstate <;> rcases htarget with rfl | rfl <;> simp only [transition, hstate]

/-- Settles O14: the transition table decides, cell by cell, and the change of state is its own. -/
theorem setStreamStateFollowsTheTable : Obligations.SetStreamStateFollowsTheTable := by
  refine ⟨fun s₀ seq n b k target hn hb => ?_, fun s₀ seq args hform => ?_⟩
  · intro s e put taken refused
    have hrefuse {st : Status} (h : transition e target = .refused st) : refused st :=
      congrArg Host.Outcome.next (respond_of_refusal (cmdSetStreamState_of_refused hn hb h) seq)
    have htake {t : Transition} {s1 : State} {st : StreamState} (h : transition e target = t)
        (ht : ∀ st, t ≠ .refused st) (hs1 : changeStream k target t s = s1) (hst : (s1.streams.get k).state = st) :
        taken st s1 := by
      have hcmd := cmdSetStreamState_of_taken hn hb h hs1 ht
      rw [hst] at hcmd
      exact congrArg Host.Outcome.next (respond_of_accepted hcmd seq)
    have hput (e' : StreamEntry) : ((put e').streams.get k).state = e'.state :=
      congrArg StreamEntry.state (Table.get_set_self ..)
    refine ⟨fun h => ?_, fun hstate htarget => ⟨fun h => ?_, fun hset hwindow => ?_⟩, fun hstate htarget => ?_,
      fun hstate htarget => ?_, fun h => ?_, fun hstate htarget => ⟨fun hqueue hflight => ?_, fun hheld => ?_⟩⟩
    · exact htake (transition_of_keep h) nofun rfl rfl
    · refine hrefuse ?_
      rw [transition_of_enable hstate htarget, if_neg]
      rw [enablable_iff]
      rintro ⟨hset, hwindow⟩
      exact h.elim hset hwindow.not_gt
    · refine htake (t := .enable) ?_ nofun rfl (hput _)
      rw [transition_of_enable hstate htarget, if_pos ((enablable_iff e).2 ⟨hset, hwindow⟩)]
    · exact hrefuse (by simp only [transition, hstate, htarget])
    · exact hrefuse (by simp only [transition, hstate, htarget])
    · exact htake (transition_of_move h) nofun rfl (hput _)
    · have hclose : changeStream k target .close s = closeStream k 0 s :=
        if_pos ⟨List.length_eq_zero_iff.2 hqueue, hflight⟩
      exact htake (transition_of_close hstate htarget) nofun hclose (hput _)
    · have hdrain : changeStream k target .close s = put { e with state := .draining } :=
        if_neg fun ⟨hqueue, hflight⟩ => hheld.elim (fun h => h (List.length_eq_zero_iff.1 hqueue)) (fun h => h hflight)
      exact htake (transition_of_close hstate htarget) nofun hdrain (hput _)
  · rw [exec_setStreamState, respond_of_refusal (cmdSetStreamState_of_form hform _)]

/-! ### CLEAR_FLAGS -/

theorem selectedSet_stream (sel : Byte) (e : StreamEntry) :
    e.selectedSet sel = flagNat (sel.getLsbD 0 && e.refusedSeen) + flagNat (sel.getLsbD 1 && e.lateSeen)
      + flagNat (sel.getLsbD 2 && e.heldSeen) := by
  rw [StreamEntry.selectedSet]
  generalize sel.getLsbD 0 = a, sel.getLsbD 1 = b, sel.getLsbD 2 = c, e.refusedSeen = x, e.lateSeen = y, e.heldSeen = z
  revert a b c x y z
  decide

theorem selectedSet_events (sel : Byte) (e : Events) :
    e.selectedSet sel = flagNat (sel.getLsbD 3 && e.portRefuseSeen) + flagNat (sel.getLsbD 4 && e.earlySeen) := by
  rw [Events.selectedSet]
  generalize sel.getLsbD 3 = a, sel.getLsbD 4 = b, e.portRefuseSeen = x, e.earlySeen = y
  revert a b x y
  decide

theorem and_not_eq_ite (x sel : Bool) : (x && !sel) = if sel = true then false else x := by cases sel <;> simp

theorem clear_stream (sel : Byte) (e : StreamEntry) :
    e.clear sel =
      { e with
        refusedSeen := if sel.getLsbD 0 then false else e.refusedSeen
        lateSeen := if sel.getLsbD 1 then false else e.lateSeen
        heldSeen := if sel.getLsbD 2 then false else e.heldSeen } := by
  simp only [StreamEntry.clear, and_not_eq_ite]

theorem clear_events (sel : Byte) (e : Events) :
    e.clear sel =
      { e with
        portRefuseSeen := if sel.getLsbD 3 then false else e.portRefuseSeen
        earlySeen := if sel.getLsbD 4 then false else e.earlySeen } := by
  simp only [Events.clear, and_not_eq_ite]

/-- R136. A selection within the five latches reaches past the stream latches exactly when it names a global one. -/
theorem globalBits_iff (sel : Byte) (h : sel.toNat < 32) :
    (sel.getLsbD 3 || sel.getLsbD 4) = true ↔ 8 ≤ sel.toNat := by
  revert sel
  decide

theorem cmdClearFlags_of_stream {target sel : Byte} {k : StreamId} (hsel : sel.toNat < 32) (h : target.toNat = k.val)
    (s : State) :
    cmdClearFlags [target, sel] s =
      if 8 ≤ sel.toNat then refusal .badArgument s
      else accepted [natByte ((s.streams.get k).selectedSet sel)] (updStream k (StreamEntry.clear sel) s) := by
  have hk : k.val < 24 := k.isLt
  have hglobal : target ≠ 0x40#8 := by
    rintro rfl
    exact absurd h (by simp; omega)
  have hall : target ≠ 0x41#8 := by
    rintro rfl
    exact absurd h (by simp; omega)
  simp only [cmdClearFlags, if_neg (Nat.not_le.2 hsel), if_neg hglobal, if_neg hall, parseStream_eq_some h,
    globalBits_iff sel hsel]

theorem cmdClearFlags_of_global {sel : Byte} (hsel : sel.toNat < 32) (s : State) :
    cmdClearFlags [0x40#8, sel] s =
      if (sel.getLsbD 0 || sel.getLsbD 1 || sel.getLsbD 2) = true then refusal .badArgument s
      else accepted [natByte (s.events.selectedSet sel)] (s.withEvents (s.events.clear sel)) := by
  simp only [cmdClearFlags, if_neg (Nat.not_le.2 hsel), if_true]

theorem cmdClearFlags_of_all {sel : Byte} (hsel : sel.toNat < 32) (s : State) :
    cmdClearFlags [0x41#8, sel] s =
      accepted [natByte ((s.streams.cells.map (StreamEntry.selectedSet sel)).sum + s.events.selectedSet sel)]
        ((s.withStreams (s.streams.map (StreamEntry.clear sel))).withEvents (s.events.clear sel)) := by
  have hglobal : (0x41#8 : Byte) ≠ 0x40#8 := by decide
  simp only [cmdClearFlags, if_neg (Nat.not_le.2 hsel), if_neg hglobal, if_true]

theorem cmdClearFlags_of_no_target {target sel : Byte} (hsel : sel.toNat < 32) (h : 24 ≤ target.toNat)
    (hglobal : target ≠ 0x40#8) (hall : target ≠ 0x41#8) (s : State) :
    cmdClearFlags [target, sel] s = refusal .badArgument s := by
  simp only [cmdClearFlags, if_neg (Nat.not_le.2 hsel), if_neg hglobal, if_neg hall, parseStream_eq_none h]

theorem cmdClearFlags_of_form {t r : Byte} {args : List Byte} (h : args.length ≠ 2 ∨ args = [t, r] ∧ 32 ≤ r.toNat)
    (s : State) : cmdClearFlags args s = refusal .badArgument s := by
  rcases h with hlength | ⟨rfl, hr⟩
  · match args, hlength with
    | [], _ => rfl
    | [_], _ => rfl
    | _ :: _ :: _ :: _, _ => rfl
  · simp only [cmdClearFlags, if_pos hr]

theorem sum_cells_map {n : Nat} {α : Type} (t : Table n α) (f : α → Nat) :
    (t.cells.map f).sum = ((List.finRange n).map fun k => f (t.get k)).sum := by
  rw [t.cells_eq_ofFn, List.ofFn_eq_map, List.map_map]
  rfl

/-- Settles O16: the target decides which latches a selection may name, and which it clears. -/
theorem clearFlagsClearsTheSelection : Obligations.ClearFlagsClearsTheSelection := by
  intro s₀ seq target sel hsel s cleared count events globalCount refused
  have hcleared : StreamEntry.clear sel = cleared := funext (clear_stream sel)
  have hevents : s.events.clear sel = events := clear_events sel s.events
  have hglobalCount : s.events.selectedSet sel = globalCount := selectedSet_events sel s.events
  refine ⟨fun k hk => ⟨fun h => ?_, fun h => ?_⟩, fun htarget => ⟨fun h => ?_, fun h => ?_⟩, fun htarget => ?_,
    fun hk hglobal hall => ?_, fun t r args hform => ?_⟩
  · have hcmd := cmdClearFlags_of_stream hsel hk s
    rw [if_pos h] at hcmd
    exact congrArg Host.Outcome.next (respond_of_refusal hcmd seq)
  · have hcmd := cmdClearFlags_of_stream hsel hk s
    rw [if_neg (Nat.not_le.2 h), hcleared, selectedSet_stream] at hcmd
    exact congrArg Host.Outcome.next (respond_of_accepted hcmd seq)
  · subst htarget
    have hcmd := cmdClearFlags_of_global hsel s
    rw [if_pos h] at hcmd
    exact congrArg Host.Outcome.next (respond_of_refusal hcmd seq)
  · subst htarget
    have hcmd := cmdClearFlags_of_global hsel s
    rw [if_neg (Bool.eq_false_iff.1 h), hevents, hglobalCount] at hcmd
    exact congrArg Host.Outcome.next (respond_of_accepted hcmd seq)
  · subst htarget
    have hcmd := cmdClearFlags_of_all hsel s
    rw [hcleared, hevents, hglobalCount, sum_cells_map] at hcmd
    simp only [selectedSet_stream] at hcmd
    exact congrArg Host.Outcome.next (respond_of_accepted hcmd seq)
  · exact congrArg Host.Outcome.next (respond_of_refusal (cmdClearFlags_of_no_target hsel hk hglobal hall _) seq)
  · exact congrArg Host.Outcome.next (respond_of_refusal (cmdClearFlags_of_form hform _) seq)

/-! ### A range of cells -/

/-- The places of a range, in order. -/
theorem filter_finRange_range {n : Nat} (first count : Nat) :
    (List.finRange n).filter (fun j => first ≤ j.val ∧ j.val < first + count) =
      ((List.finRange n).drop first).take count := by
  have hsplit : List.finRange n = (List.finRange n).take first ++
      (((List.finRange n).drop first).take count ++ (List.finRange n).drop (first + count)) := by
    rw [← List.drop_drop, List.take_append_drop, List.take_append_drop]
  have hbefore : ((List.finRange n).take first).filter (fun j => first ≤ j.val ∧ j.val < first + count) = [] := by
    rw [List.filter_eq_nil_iff]
    intro j hj
    obtain ⟨i, hi, rfl⟩ := List.mem_take_iff_getElem.1 hj
    simp
    omega
  have hafter : ((List.finRange n).drop (first + count)).filter
      (fun j => first ≤ j.val ∧ j.val < first + count) = [] := by
    rw [List.filter_eq_nil_iff]
    intro j hj
    obtain ⟨i, hi, rfl⟩ := List.mem_drop_iff_getElem.1 hj
    simp
  have hwithin : (((List.finRange n).drop first).take count).filter
      (fun j => first ≤ j.val ∧ j.val < first + count) = ((List.finRange n).drop first).take count := by
    rw [List.filter_eq_self]
    intro j hj
    obtain ⟨i, hi, rfl⟩ := List.mem_take_iff_getElem.1 hj
    simp at hi ⊢
    omega
  conv_lhs => rw [hsplit]
  rw [List.filter_append, List.filter_append, hbefore, hwithin, hafter, List.nil_append, List.append_nil]

theorem cells_drop_take {n : Nat} {α : Type} (t : Table n α) (first count : Nat) :
    (t.cells.drop first).take count =
      ((List.finRange n).filter fun j => first ≤ j.val ∧ j.val < first + count).map t.get := by
  rw [filter_finRange_range, t.cells_eq_ofFn, List.ofFn_eq_map, List.map_take, List.map_drop]

theorem cells_getElem? {n : Nat} {α : Type} (t : Table n α) (j : Fin n) : t.cells[j.val]? = some (t.get j) :=
  List.getElem?_eq_getElem _

/-! ### The bytes of a slot entry (Table 12-6) -/

theorem SlotEntry.bytes_reported (e : SlotEntry) (rest : List Byte) : SlotReported e (e.bytes ++ rest) 0 := by
  obtain ⟨owner, number, lend, length⟩ := e
  refine ⟨?_, ?_, beNat_flagByte lend, ?_⟩
  · cases owner <;> rfl
  · exact (beNat_singleton _).trans (toNat_setWidth_of_le (by decide) number)
  · exact (beNat_bytes16 _).trans (toNat_setWidth_of_le (by decide) length)

theorem SlotReported.of_drop {e : SlotEntry} {p : List Byte} {offset : Nat}
    (h : SlotReported e (p.drop offset) 0) : SlotReported e p offset := by
  simpa only [SlotReported, field_drop, Nat.zero_add, Nat.add_zero] using h

/-- Encodings of the same length stand that far apart. -/
theorem drop_flatMap_of_length {α β : Type} {f : α → List β} {m : Nat} (hf : ∀ a, (f a).length = m) {as : List α}
    {i : Nat} {a : α} (h : as[i]? = some a) :
    (as.flatMap f).drop (m * i) = f a ++ (as.drop (i + 1)).flatMap f := by
  induction as generalizing i with
  | nil => cases h
  | cons x as ih =>
    cases i with
    | zero =>
      cases h
      rfl
    | succ i =>
      have hskip : m * (i + 1) = (f x).length + m * i := by
        rw [hf, Nat.mul_succ, Nat.add_comm]
      rw [List.flatMap_cons, hskip, List.drop_length_add_append, ih h]
      rfl

/-- R24. An entry's five bytes are its encoding exactly when they are read as it. -/
theorem parseSlotEntry_eq_some_iff (o n l h w : Byte) (e : SlotEntry) :
    parseSlotEntry o n l h w = some e ↔ [o, n, l, h, w] = e.bytes ∧ (e.owner = .stream ∨ e.number = 0#5) := by
  obtain ⟨owner, number, lend, length⟩ := e
  have hnarrow : h.toNat < 16 ↔ (h ++ w).toNat < 2 ^ 12 := by
    have hw := w.isLt
    rw [toNat_append_byte]
    omega
  have hbytes : [o, n, l, h, w] = SlotEntry.bytes ⟨owner, number, lend, length⟩ ↔
      o = owner.code ∧ n = BitVec.setWidth 8 number ∧ l = flagByte lend ∧ h ++ w = BitVec.setWidth 16 length := by
    rw [SlotEntry.bytes, List.cons_eq_cons, List.cons_eq_cons, List.cons_eq_cons, append_eq_iff_bytes16]
  rw [hbytes, ← reads_owner, ← reads_flag, parseSlotEntry]
  constructor
  · intro hparse
    split at hparse
    · next owner' lend' howner hlend =>
      rw [Option.ite_none_right_eq_some] at hparse
      obtain ⟨⟨hn, hh, hstream⟩, hentry⟩ := hparse
      cases hentry
      refine ⟨⟨howner, (extractLsb'_eq_iff (by decide) hn _).1 rfl, hlend,
        (extractLsb'_eq_iff (by decide) (hnarrow.1 hh) _).1 rfl⟩, hstream.imp_right fun hzero => ?_⟩
      rw [hzero]
      rfl
    · cases hparse
  · rintro ⟨⟨howner, hn, hlend, hhw⟩, hstream⟩
    have hnlt : n.toNat < 32 := by
      rw [hn, toNat_setWidth_of_le (by decide)]
      exact number.isLt
    have hhlt : h.toNat < 16 := by
      rw [hnarrow, hhw, toNat_setWidth_of_le (by decide)]
      exact length.isLt
    have hzero : owner = .stream ∨ n = 0#8 := hstream.imp_right fun hzero => hn.trans (congrArg _ hzero)
    simp only [howner, hlend]
    rw [if_pos ⟨hnlt, hhlt, hzero⟩, (extractLsb'_eq_iff (by decide) hnlt number).2 hn,
      (extractLsb'_eq_iff (by decide) (hnarrow.1 hhlt) length).2 hhw]

theorem parseSlotEntries_cons {o n l h w : Byte} {rest : List Byte} {e : SlotEntry} {es : List SlotEntry}
    (hentry : parseSlotEntry o n l h w = some e) (hrest : parseSlotEntries rest = some es) :
    parseSlotEntries (o :: n :: l :: h :: w :: rest) = some (e :: es) := by
  simp only [parseSlotEntries, hentry, hrest]

theorem parseSlotEntries_bytes {es : List SlotEntry} (h : ∀ e ∈ es, e.owner = .stream ∨ e.number = 0#5) :
    parseSlotEntries (es.flatMap SlotEntry.bytes) = some es := by
  induction es with
  | nil => rfl
  | cons e es ih =>
    obtain ⟨he, hes⟩ := List.forall_mem_cons.1 h
    have hentry := (parseSlotEntry_eq_some_iff _ _ _ _ _ e).2 ⟨rfl, he⟩
    exact parseSlotEntries_cons hentry (ih hes)

theorem parseSlotEntries_form {bs : List Byte} {es : List SlotEntry} (h : parseSlotEntries bs = some es) :
    bs = es.flatMap SlotEntry.bytes ∧ ∀ e ∈ es, e.owner = .stream ∨ e.number = 0#5 := by
  induction bs using parseSlotEntries.induct generalizing es with
  | case1 =>
    cases h
    exact ⟨rfl, nofun⟩
  | case2 o n l hi lo rest e es' hrest hentry ih =>
    simp only [parseSlotEntries, hentry, hrest] at h
    cases h
    obtain ⟨rfl, hes⟩ := ih hrest
    obtain ⟨hbytes, he⟩ := (parseSlotEntry_eq_some_iff _ _ _ _ _ e).1 hentry
    refine ⟨?_, List.forall_mem_cons.2 ⟨he, hes⟩⟩
    rw [List.flatMap_cons, ← hbytes]
    rfl
  | case3 o n l hi lo rest hnone ih =>
    unfold parseSlotEntries at h
    split at h
    · next hentry hrest => exact (hnone _ _ hentry hrest).elim
    · cases h
  | case4 bs hnil hcons =>
    unfold parseSlotEntries at h
    split at h
    · exact (hnil rfl).elim
    · exact (hcons _ _ _ _ _ _ rfl).elim
    · cases h

/-! ### READ_SLOTS -/

theorem exec_readSlots (seq : Byte) (args : List Byte) (s : State) :
    exec (.readSlots seq args) s = .next (respond seq true (cmdReadSlots args) s) := rfl

/-- R27. The payload of a range of a bank. -/
def slotsPayload (b : Bank) (first count : Byte) : List Byte :=
  summaryOf b ++ ((b.entries.cells.drop first.toNat).take count.toNat).flatMap SlotEntry.bytes

theorem cmdReadSlots_of_bank {bank first count : Byte} {staged : Bool} (hbank : bank = flagByte staged)
    (hrange : slotRange first count = true) (s : State) :
    cmdReadSlots [bank, first, count] s =
      accepted (slotsPayload (if staged = true then s.staged else s.active) first count) s := by
  simp only [cmdReadSlots, (reads_flag bank staged).2 hbank, if_pos hrange, summary_eq_summaryOf, slotsPayload]

theorem cmdReadSlots_of_out_of_range {bank first count : Byte}
    (h : 1 < bank.toNat ∨ ¬ slotRange first count = true) (s : State) :
    cmdReadSlots [bank, first, count] s = refusal .badArgument s := by
  cases hbank : parseFlag bank with
  | none => simp only [cmdReadSlots, hbank]
  | some staged =>
    have hflag := (reads_flag bank staged).1 hbank
    have hle : bank.toNat ≤ 1 := by
      rw [hflag]
      cases staged <;> decide
    simp only [cmdReadSlots, hbank, if_neg (h.resolve_left (Nat.not_lt.2 hle))]

theorem cmdReadSlots_of_length_ne {args : List Byte} (h : args.length ≠ 3) (s : State) :
    cmdReadSlots args s = refusal .badArgument s := by
  match args, h with
  | [], _ => rfl
  | [_], _ => rfl
  | [_, _], _ => rfl
  | _ :: _ :: _ :: _ :: _, _ => rfl

theorem slotsPayload_reported {b : Bank} {first count : Byte} {i : Nat} {j : SlotId} (hi : i < count.toNat)
    (hj : j.val = first.toNat + i) : SlotReported (b.entries.get j) (slotsPayload b first count) (4 + 5 * i) := by
  have hentry : ((b.entries.cells.drop first.toNat).take count.toNat)[i]? = some (b.entries.get j) := by
    rw [List.getElem?_take_of_lt hi, List.getElem?_drop, ← hj, cells_getElem?]
  have hsummary (bs : List Byte) : (summaryOf b ++ bs).drop 4 = bs := rfl
  refine .of_drop ?_
  rw [slotsPayload, ← List.drop_drop, hsummary,
    drop_flatMap_of_length (f := SlotEntry.bytes) (m := 5) (fun _ => rfl) hentry]
  exact SlotEntry.bytes_reported _ _

/-- Settles O17: the bank's selector and the range decide, and the entries stand five bytes apart. -/
theorem readSlotsReportsTheBank : Obligations.ReadSlotsReportsTheBank := by
  intro s₀ seq bank first count s report
  have hreport (b : Bank) : slotsPayload b first count = report b := by
    rw [slotsPayload, cells_drop_take, List.flatMap_map]
  refine ⟨fun hfirst hlo hhi hend => ?_, fun hbad => ?_, fun args hlength => ?_⟩
  · have hrange := (slotRange_iff first count).2 ⟨hfirst, hlo, hhi, hend⟩
    refine ⟨fun hbank => ?_, fun hbank => ?_, fun b => ⟨?_, fun i j hi hj => ?_⟩⟩
    · have hcmd := cmdReadSlots_of_bank (staged := false) hbank hrange s
      rw [hreport] at hcmd
      rw [exec_readSlots, respond_of_accepted hcmd]
      rfl
    · have hcmd := cmdReadSlots_of_bank (staged := true) hbank hrange s
      rw [hreport] at hcmd
      rw [exec_readSlots, respond_of_accepted hcmd]
      rfl
    · rw [← hreport, slotsPayload, List.length_append, length_flatMap_slotBytes, List.length_take, List.length_drop,
        b.entries.size]
      have hsummary : (summaryOf b).length = 4 := rfl
      have hslots : numSlots = 48 := rfl
      omega
    · rw [← hreport]
      exact slotsPayload_reported hi hj
  · have hout : 1 < bank.toNat ∨ ¬ slotRange first count = true := by
      rw [slotRange_iff]
      omega
    rw [exec_readSlots, respond_of_refusal (cmdReadSlots_of_out_of_range hout _)]
  · rw [exec_readSlots, respond_of_refusal (cmdReadSlots_of_length_ne hlength _)]

/-! ### WRITE_SLOTS -/

theorem exec_writeSlots (seq : Byte) (args : List Byte) (s : State) :
    exec (.writeSlots seq args) s = .next (respond seq true (cmdWriteSlots args) s) := rfl

/-- R24. The arguments of a WRITE_SLOTS that is taken: a range and as many properly encoded entries. -/
def ProperSlots (args : List Byte) (first count : Byte) (es : List SlotEntry) : Prop :=
  args = first :: count :: es.flatMap SlotEntry.bytes ∧ es.length = count.toNat ∧ 1 ≤ count.toNat ∧
    count.toNat ≤ 16 ∧ first.toNat + count.toNat ≤ 48 ∧ ∀ e ∈ es, e.owner = .stream ∨ e.number = 0#5

theorem cmdWriteSlots_of_proper {args : List Byte} {first count : Byte} {es : List SlotEntry}
    (h : ProperSlots args first count es) (s : State) :
    cmdWriteSlots args s = editStaged { s.staged with entries := writeEntries s.staged.entries first.toNat es } s := by
  obtain ⟨rfl, hlength, hlo, hhi, hend, hes⟩ := h
  have hrange := (slotRange_iff first count).2 ⟨by omega, hlo, hhi, hend⟩
  simp only [cmdWriteSlots, parseSlotEntries_bytes hes]
  exact if_pos ⟨hrange, hlength⟩

theorem cmdWriteSlots_of_not_proper {args : List Byte} (h : ¬ ∃ first count es, ProperSlots args first count es)
    (s : State) : cmdWriteSlots args s = refusal .badArgument s := by
  unfold cmdWriteSlots
  split
  · next first count rest =>
    split
    · next es hparse =>
      refine if_neg fun ⟨hrange, hlength⟩ => h ⟨first, count, es, ?_⟩
      obtain ⟨-, hlo, hhi, hend⟩ := (slotRange_iff first count).1 hrange
      obtain ⟨rfl, hes⟩ := parseSlotEntries_form hparse
      exact ⟨rfl, hlength, hlo, hhi, hend, hes⟩
    · rfl
  · rfl

/-- R24. The entries from index `k` are replaced one after another, and no others. -/
theorem get_writeEntries (t : Table numSlots SlotEntry) (k : Nat) (es : List SlotEntry) (j : SlotId) :
    (writeEntries t k es).get j = if k ≤ j.val then es[j.val - k]?.getD (t.get j) else t.get j := by
  induction es generalizing t k with
  | nil => simp [writeEntries]
  | cons e es ih =>
    rw [writeEntries, ih]
    obtain hlt | heq | hgt := Nat.lt_trichotomy j.val k
    · have hother : (if h : k < numSlots then t.set ⟨k, h⟩ e else t).get j = t.get j := by
        split
        · exact Table.get_set_ne _ _ (Fin.ne_of_val_ne hlt.ne')
        · rfl
      rw [if_neg (by omega), if_neg (by omega), hother]
    · have hself : (if h : k < numSlots then t.set ⟨k, h⟩ e else t).get j = e := by
        rw [dif_pos (heq ▸ j.isLt), Table.get_set, if_pos (Fin.ext heq.symm)]
      rw [if_neg (by omega), if_pos heq.ge, hself, heq, Nat.sub_self]
      rfl
    · have hother : (if h : k < numSlots then t.set ⟨k, h⟩ e else t).get j = t.get j := by
        split
        · exact Table.get_set_ne _ _ (Fin.ne_of_val_ne hgt.ne)
        · rfl
      have hindex : j.val - k = j.val - (k + 1) + 1 := by omega
      rw [if_pos (Nat.succ_le_of_lt hgt), if_pos hgt.le, hother, hindex, List.getElem?_cons_succ]

/-- Settles O18: the argument form first, then the lock, then the write entry by entry. -/
theorem writeSlotsReplacesTheEntries : Obligations.WriteSlotsReplacesTheEntries := by
  intro s₀ seq args
  refine ⟨fun first count es hproper => ⟨fun hlock => ?_, fun hfree => ?_⟩, fun hbad => ?_, fun e => ⟨rfl, ?_⟩⟩
  · have hcmd := cmdWriteSlots_of_proper hproper (placeResponse s₀)
    rw [editStaged_of_locked hlock] at hcmd
    rw [exec_writeSlots, respond_of_refusal hcmd]
  · have hcmd := cmdWriteSlots_of_proper hproper (placeResponse s₀)
    rw [editStaged_of_not_locked hfree] at hcmd
    refine ⟨{ (placeResponse s₀).staged with
      entries := writeEntries (placeResponse s₀).staged.entries first.toNat es }, ?_, rfl,
      fun j => get_writeEntries (placeResponse s₀).staged.entries first.toNat es j⟩
    rw [exec_writeSlots, respond_of_accepted hcmd]
  · rw [exec_writeSlots, respond_of_refusal (cmdWriteSlots_of_not_proper hbad _)]
  · have hreported := e.bytes_reported []
    rwa [List.append_nil] at hreported

/-! ### Validation (R28) -/

/-- R28. What a used slot may not be. -/
def SlotEntry.Bad (e : SlotEntry) : Prop := e.length = 0#12 ∨ (e.owner = .stream ∧ 24 ≤ e.number.toNat)

theorem SlotEntry.fault_of_not_bad {e : SlotEntry} (h : ¬ e.Bad) : e.fault = none := by
  rw [SlotEntry.fault, if_neg fun hlength => h (.inl hlength), if_neg fun howner => h (.inr howner)]

theorem SlotEntry.fault_of_bad {e : SlotEntry} (h : e.Bad) :
    e.fault = some (if e.length = 0#12 then .length else .owner) := by
  rw [SlotEntry.fault]
  by_cases hlength : e.length = 0#12
  · rw [if_pos hlength, if_pos hlength]
  · rw [if_neg hlength, if_neg hlength, if_pos (h.resolve_left hlength)]

theorem slotFault_of_good {es : List SlotEntry} (k : Nat) (h : ∀ e ∈ es, ¬ e.Bad) : slotFault k es = none := by
  induction es generalizing k with
  | nil => rfl
  | cons e es ih =>
    obtain ⟨he, hes⟩ := List.forall_mem_cons.1 h
    simp only [slotFault, SlotEntry.fault_of_not_bad he, ih (k + 1) hes]

/-- R28. The first slot that fails is reported with its index. -/
theorem slotFault_of_first {front back : List SlotEntry} {e : SlotEntry} (k : Nat) (hfront : ∀ f ∈ front, ¬ f.Bad)
    (he : e.Bad) :
    slotFault k (front ++ e :: back) =
      some (if e.length = 0#12 then .length else .owner, natByte (k + front.length)) := by
  induction front generalizing k with
  | nil => simp only [List.nil_append, slotFault, SlotEntry.fault_of_bad he, List.length_nil, Nat.add_zero]
  | cons f front ih =>
    obtain ⟨hf, hfront⟩ := List.forall_mem_cons.1 hfront
    simp only [List.cons_append, slotFault, SlotEntry.fault_of_not_bad hf, ih (k + 1) hfront, List.length_cons]
    rw [Nat.add_right_comm, Nat.add_assoc]

/-- The used slots of a bank. -/
theorem mem_take_cells {n : Nat} {α : Type} {t : Table n α} {m : Nat} {a : α} :
    a ∈ t.cells.take m ↔ ∃ j : Fin n, j.val < m ∧ t.get j = a := by
  rw [t.take_cells]
  simp

theorem Bank.fault_of_count {b : Bank} (h : b.count = 0 ∨ 48 < b.count) : b.fault = some (.count, 0xFF#8) := if_pos h

theorem Bank.fault_of_good {b : Bank} (hlo : 1 ≤ b.count) (hhi : b.count ≤ 48)
    (hgood : ∀ j : SlotId, j.val < b.count → ¬ (b.entries.get j).Bad) :
    b.fault = if 65535 < usedLength b then some (.frame, 0xFF#8) else none := by
  have hcount : ¬ (b.count = 0 ∨ numSlots < b.count) := by
    have hslots : numSlots = 48 := rfl
    omega
  have hslots : slotFault 0 (b.entries.cells.take b.count) = none := by
    refine slotFault_of_good 0 fun e he => ?_
    obtain ⟨j, hj, rfl⟩ := mem_take_cells.1 he
    exact hgood j hj
  rw [Bank.fault, if_neg hcount, hslots, frameLength_eq_usedLength, maxFrameLength]

theorem Bank.fault_of_bad {b : Bank} {j : SlotId} (hlo : 1 ≤ b.count) (hhi : b.count ≤ 48) (hj : j.val < b.count)
    (hfirst : ∀ i < j, ¬ (b.entries.get i).Bad) (hbad : (b.entries.get j).Bad) :
    b.fault = some (if (b.entries.get j).length = 0#12 then .length else .owner, natByte j.val) := by
  have hcount : ¬ (b.count = 0 ∨ numSlots < b.count) := by
    have hslots : numSlots = 48 := rfl
    omega
  have hlength : (b.entries.cells.take b.count).length = b.count := by
    rw [List.length_take, b.entries.size]
    exact Nat.min_eq_left hhi
  have hsplit : b.entries.cells.take b.count =
      b.entries.cells.take j.val ++ b.entries.get j :: (b.entries.cells.take b.count).drop (j.val + 1) := by
    conv_lhs => rw [← List.take_append_drop j.val (b.entries.cells.take b.count)]
    rw [List.take_take, Nat.min_eq_left hj.le, List.drop_eq_getElem_cons (by rw [hlength]; exact hj), List.getElem_take]
    rfl
  have hfront : ∀ f ∈ b.entries.cells.take j.val, ¬ f.Bad := by
    intro f hf
    obtain ⟨i, hi, rfl⟩ := mem_take_cells.1 hf
    exact hfirst i hi
  have hslots := slotFault_of_first (back := (b.entries.cells.take b.count).drop (j.val + 1)) 0 hfront hbad
  rw [← hsplit, List.length_take, b.entries.size, Nat.min_eq_left j.isLt.le, Nat.zero_add] at hslots
  rw [Bank.fault, if_neg hcount, hslots]

/-- Settles O21: the checks in their order, each decided by the used slots. -/
theorem validationReportsTheFirstFailure : Obligations.ValidationReportsTheFirstFailure := by
  intro b bad total
  refine ⟨?_, Bank.fault_of_count, fun j hlo hhi hj hfirst hbad => Bank.fault_of_bad hlo hhi hj hfirst hbad,
    fun hlo hhi hgood htotal => (Bank.fault_of_good hlo hhi hgood).trans (if_pos htotal)⟩
  constructor
  · intro hvalid
    have hcount : ¬ (b.count = 0 ∨ 48 < b.count) := fun h => by
      rw [Bank.fault_of_count h] at hvalid
      cases hvalid
    have hlo : 1 ≤ b.count := by omega
    have hhi : b.count ≤ 48 := by omega
    have hgood (j : SlotId) : j.val < b.count → ¬ (b.entries.get j).Bad := by
      induction j using WellFoundedLT.induction with
      | ind j ih =>
        intro hj hbad
        rw [Bank.fault_of_bad hlo hhi hj (fun i hi => ih i hi ((Fin.lt_def.1 hi).trans hj)) hbad] at hvalid
        cases hvalid
    refine ⟨hlo, hhi, hgood, ?_⟩
    rw [Bank.fault_of_good hlo hhi hgood] at hvalid
    by_contra htotal
    have hlong : 65535 < usedLength b := Nat.not_le.1 htotal
    rw [if_pos hlong] at hvalid
    cases hvalid
  · rintro ⟨hlo, hhi, hgood, htotal⟩
    exact (Bank.fault_of_good hlo hhi hgood).trans (if_neg (Nat.not_lt.2 htotal))

/-! ### SNAPSHOT and READ_SNAPSHOT -/

theorem exec_snapshot (seq : Byte) (args : List Byte) (s : State) :
    exec (.snapshot seq args) s = .next (respond seq true (cmdSnapshot args) s) := rfl

theorem exec_readSnapshot (seq : Byte) (args : List Byte) (s : State) :
    exec (.readSnapshot seq args) s = .next (respond seq true (cmdReadSnapshot args) s) := rfl

/-- 00h and 01h are the flags' bytes. -/
theorem parseFlag_of_le {b : Byte} (h : b.toNat ≤ 1) : parseFlag b = some (decide (b.toNat = 1)) := by
  refine (reads_flag _ _).2 (BitVec.eq_of_toNat_eq ?_)
  by_cases hone : b.toNat = 1
  · rw [hone, decide_eq_true rfl]
    rfl
  · rw [decide_eq_false hone]
    exact Nat.lt_one_iff.1 (h.lt_of_ne hone)

theorem parseFlag_eq_none {b : Byte} (h : 1 < b.toNat) : parseFlag b = none := by
  by_contra hsome
  obtain ⟨f, hf⟩ := Option.ne_none_iff_exists'.1 hsome
  rw [(reads_flag b f).1 hf] at h
  cases f <;> exact absurd h (by decide)

theorem snapshotTarget_of_stream {b : Byte} {k : StreamId} (h : b.toNat = k.val) (s : State) :
    snapshotTarget s b = some (.stream k (s.stats.streams.get k)) := by
  have hk : k.val < 24 := k.isLt
  have hglobal : b ≠ 0x40#8 := by
    rintro rfl
    exact absurd h (by simp; omega)
  rw [snapshotTarget, if_neg hglobal, parseStream_eq_some h]
  rfl

theorem snapshotTarget_of_global (s : State) : snapshotTarget s 0x40#8 = some (.global s.stats.globals) := if_pos rfl

theorem snapshotTarget_eq_none {b : Byte} (h : 24 ≤ b.toNat) (hglobal : b ≠ 0x40#8) (s : State) :
    snapshotTarget s b = none := by
  rw [snapshotTarget, if_neg hglobal, parseStream_eq_none h]
  rfl

theorem cmdSnapshot_of_target {target clear : Byte} {c : GroupCopy} {s : State} (hc : snapshotTarget s target = some c)
    (hclear : clear.toNat ≤ 1) :
    cmdSnapshot [target, clear] s = accepted (capture c s).header (takeSnapshot c (decide (clear.toNat = 1)) s) := by
  simp only [cmdSnapshot, hc, parseFlag_of_le hclear]

theorem cmdSnapshot_of_no_target {target : Byte} {s : State} (h : snapshotTarget s target = none) (clear : Byte) :
    cmdSnapshot [target, clear] s = refusal .badArgument s := by
  simp only [cmdSnapshot, h]

theorem cmdSnapshot_of_no_flag {clear : Byte} (h : 1 < clear.toNat) (target : Byte) (s : State) :
    cmdSnapshot [target, clear] s = refusal .badArgument s := by
  cases htarget : snapshotTarget s target <;> simp only [cmdSnapshot, htarget, parseFlag_eq_none h]

theorem cmdSnapshot_of_length_ne {args : List Byte} (h : args.length ≠ 2) (s : State) :
    cmdSnapshot args s = refusal .badArgument s := by
  match args, h with
  | [], _ => rfl
  | [_], _ => rfl
  | _ :: _ :: _ :: _, _ => rfl

theorem takeSnapshot_stream (k : StreamId) (g : StreamStats) (clear : Prop) [Decidable clear] (s : State) :
    takeSnapshot (.stream k g) (decide clear) s =
      { s with
        stats :=
          { s.stats with
            snapshot := some (capture (.stream k g) s)
            streams := if clear then s.stats.streams.set k StreamStats.reset else s.stats.streams } } := by
  by_cases h : clear
  · rw [if_pos h, decide_eq_true h]
    rfl
  · rw [if_neg h, decide_eq_false h]
    rfl

theorem takeSnapshot_global (g : GlobalStats) (clear : Prop) [Decidable clear] (s : State) :
    takeSnapshot (.global g) (decide clear) s =
      { s with
        stats :=
          { s.stats with
            snapshot := some (capture (.global g) s)
            globals := if clear then GlobalStats.reset else s.stats.globals } } := by
  by_cases h : clear
  · rw [if_pos h, decide_eq_true h]
    rfl
  · rw [if_neg h, decide_eq_false h]
    rfl

theorem cmdReadSnapshot_of_none {s : State} (h : s.stats.snapshot = none) :
    cmdReadSnapshot [] s = refusal .noData s := by
  simp only [cmdReadSnapshot, h]

theorem cmdReadSnapshot_of_some {s : State} {b : Snapshot} (h : s.stats.snapshot = some b) :
    cmdReadSnapshot [] s = accepted b.bytes s := by
  simp only [cmdReadSnapshot, h]

/-- Table 12-8. The counters follow the nine bytes, four bytes each. -/
theorem field_snapshot_counter (b : Snapshot) {j : Nat} (hj : j < b.copy.counters.length) :
    field b.bytes (9 + 4 * j) 4 = (b.copy.counters.getD j 0#32).toNat := by
  have hentry : b.copy.counters[j]? = some (b.copy.counters.getD j 0#32) := by
    rw [List.getD_eq_getElem _ _ hj, List.getElem?_eq_getElem hj]
  have hheader (bs : List Byte) : (b.header ++ bs).drop 9 = bs := rfl
  rw [field, Snapshot.bytes, ← List.drop_drop, hheader,
    drop_flatMap_of_length (f := bytes32) (m := 4) (fun _ => rfl) hentry]
  exact beNat_bytes32 _

theorem length_snapshotBytes (b : Snapshot) : b.bytes.length = 9 + 4 * b.copy.counters.length := by
  have hcounters (ws : List Word) : (ws.flatMap bytes32).length = 4 * ws.length := by
    simp [List.length_flatMap, bytes32, Nat.mul_comm]
  rw [Snapshot.bytes, List.length_append, hcounters]
  rfl

/-- R140. A counter stays at its greatest value. -/
theorem toNat_satAdd (c : Word) (n : Nat) : (satAdd c n).toNat = min (c.toNat + n) 0xFFFFFFFF := by
  rw [satAdd]
  split
  · next h =>
    rw [BitVec.toNat_add, BitVec.toNat_ofNat, Nat.add_mod_mod, Nat.mod_eq_of_lt h]
    omega
  · next h =>
    change 4294967295 = _
    omega

/-- Settles O27: the target byte names the group, the flag its clearing; the payload's counters stand four bytes
apart. -/
theorem snapshotCapturesOneGroup : Obligations.SnapshotCapturesOneGroup := by
  intro s₀ seq target clear
  refine ⟨fun k hk hclear => ?_, fun htarget hclear => ?_, fun hbad => ?_, fun args hlength => ?_, fun hnone => ?_,
    fun b hb => ?_, fun a args => ?_, toNat_satAdd⟩
  · have hcmd := cmdSnapshot_of_target (snapshotTarget_of_stream hk (placeResponse s₀)) hclear
    rw [takeSnapshot_stream] at hcmd
    rw [exec_snapshot, respond_of_accepted hcmd, (eq_natByte_iff target k).2 hk]
    rfl
  · subst htarget
    have hcmd := cmdSnapshot_of_target (snapshotTarget_of_global (placeResponse s₀)) hclear
    rw [takeSnapshot_global] at hcmd
    rw [exec_snapshot, respond_of_accepted hcmd]
    rfl
  · rcases hbad with hclear | ⟨hk, hglobal⟩
    · rw [exec_snapshot, respond_of_refusal (cmdSnapshot_of_no_flag hclear _ _)]
    · rw [exec_snapshot, respond_of_refusal (cmdSnapshot_of_no_target (snapshotTarget_eq_none hk hglobal _) _)]
  · rw [exec_snapshot, respond_of_refusal (cmdSnapshot_of_length_ne hlength _)]
  · rw [exec_readSnapshot, respond_of_refusal (cmdReadSnapshot_of_none hnone)]
  · refine ⟨b.bytes, ?_, ?_, ?_, ?_, ?_⟩
    · rw [exec_readSnapshot, respond_of_accepted (cmdReadSnapshot_of_some hb)]
    · obtain ⟨k | g, frame, tick⟩ := b
      · exact beNat_natByte (k.isLt.trans (by decide))
      · rfl
    · exact beNat_bytes32 b.frame
    · exact beNat_bytes32 b.tick
    · obtain ⟨k | g, frame, tick⟩ := b
      · exact ⟨length_snapshotBytes ⟨.stream k _, frame, tick⟩,
          fun j hj => field_snapshot_counter ⟨.stream k _, frame, tick⟩ hj⟩
      · exact ⟨length_snapshotBytes ⟨.global g, frame, tick⟩,
          fun j hj => field_snapshot_counter ⟨.global g, frame, tick⟩ hj⟩
  · rw [exec_readSnapshot, respond_eq_answer]
    rfl

/-! ### RESET -/

/-- R125. The refused requests stand in descending age. -/
theorem resetOrder_sorted (s : State) :
    ((resetOrder s).map Prod.snd).Pairwise fun a b => seqAge s b ≤ seqAge s a := by
  have htotal : Std.Total fun a b : Option StreamId × Descriptor => seqAge s b.2 ≤ seqAge s a.2 :=
    ⟨fun a b => Nat.le_total _ _⟩
  have htrans : IsTrans (Option StreamId × Descriptor) fun a b => seqAge s b.2 ≤ seqAge s a.2 :=
    ⟨fun a b c hab hbc => hbc.trans hab⟩
  exact List.pairwise_map.2 (List.pairwise_insertionSort _ (queuedRequests s))

/-- Settles O29: the refusals leave their responses alone behind, and the queue holds RESET_DONE alone. -/
theorem resetCommandRefusesInAdmissionOrder : Obligations.ResetCommandRefusesInAdmissionOrder := by
  intro s₀ seq
  refine ⟨fun b args => ?_, (resetOrder (placeResponse s₀)).map Prod.snd, ?_, resetOrder_sorted _, ?_⟩
  · rfl
  · refine (resetOrder_perm _).trans (.of_eq ?_)
    rw [allHeld, streamHeld_eq_flatMap]
  · rw [exec_reset_nil, resetCommand, resetBlocks_refuseQueued, (resetOrder_perm (placeResponse s₀)).length_eq]
    rfl

/-! ### Classification -/

/-- R64. What a stream takes. -/
theorem captures_iff (e : StreamEntry) (r : UpRequest) :
    e.captures r = true ↔
      e.state ≠ .disabled ∧ e.initiatorSet.getLsbD r.initiator.toNat = true ∧
        e.pageBase.toNat ≤ r.unitAddr.toNat / 128 ∧ r.unitAddr.toNat / 128 ≤ e.pageLimit.toNat ∧
        (e.kinds = .both ∨ (e.kinds = .read ∧ r.kind = .read) ∨ (e.kinds = .write ∧ r.kind = .write)) := by
  have hkinds : e.kinds.takes r.kind = true ↔
      (e.kinds = .both ∨ (e.kinds = .read ∧ r.kind = .read) ∨ (e.kinds = .write ∧ r.kind = .write)) := by
    cases e.kinds <;> simp [Kinds.takes]
  simp only [StreamEntry.captures, Bool.and_eq_true, decide_eq_true_iff, hkinds, and_assoc]
  rfl

/-- The search through all places takes the lowest. -/
theorem find?_finRange_eq_some {n : Nat} {p : Fin n → Bool} {k : Fin n} (hk : p k = true)
    (hfirst : ∀ j < k, ¬ p j = true) : (List.finRange n).find? p = some k := by
  rw [List.find?_eq_some_iff_getElem]
  refine ⟨hk, k.val, by simp, by simp, fun j hj => ?_⟩
  have hlow := hfirst ⟨j, hj.trans k.isLt⟩ hj
  simpa using hlow

theorem classify_of_first {s : State} {r : UpRequest} {k : StreamId} (hk : (s.streams.get k).captures r = true)
    (hfirst : ∀ j < k, ¬ (s.streams.get j).captures r = true) : classify s r = some k := by
  have hfind : ((List.finRange numStreams).find? fun k => (s.streams.get k).captures r) = some k :=
    find?_finRange_eq_some hk hfirst
  rw [classify, hfind]

theorem classify_of_none {s : State} {r : UpRequest} (h : ∀ k : StreamId, ¬ (s.streams.get k).captures r = true) :
    classify s r = s.settings.defaultStream := by
  have hfind : ((List.finRange numStreams).find? fun k => (s.streams.get k).captures r) = none :=
    List.find?_eq_none.2 fun k _ => h k
  rw [classify, hfind]

/-- Settles O43: the search takes the first stream that captures. -/
theorem classificationTakesTheFirstMatch : Obligations.ClassificationTakesTheFirstMatch := by
  intro s r
  exact ⟨fun k hk hfirst => classify_of_first ((captures_iff _ r).2 hk) fun j hj => mt (captures_iff _ r).1 (hfirst j hj),
    fun h => classify_of_none fun k => mt (captures_iff _ r).1 (h k)⟩

/-! ### The gates -/

theorem exec_requestOffer_of_occupied {s : State} (h : s.port.offer ≠ none) (header : BitVec 64) (data : List DataUnit) :
    exec (.requestOffer header data) s = .next s := by
  obtain ⟨r, hr⟩ := Option.ne_none_iff_exists'.1 h
  have hexec : exec (.requestOffer header data) s = execRequestOffer header data s := rfl
  rw [hexec, execRequestOffer, hr]

theorem judge_of_quiesce {s : State} (h : s.ctl.mode = .quiescing ∨ s.ctl.mode = .quiesced) (r : UpRequest) :
    judge s r = .stall := if_pos h

theorem judge_of_duplicate {s : State} {r : UpRequest} (hmode : s.ctl.mode.admits = true) (hform : malformed r = false)
    (h : duplicate s r = true) : judge s r = .refused .duplicate none := by
  simp only [judge, if_neg ((Mode.admits_iff _).1 hmode), hform, h, if_true, Bool.false_eq_true, if_false]

/-- R59. Outside PASS and with the form checks passed, the classification decides. -/
theorem judge_of_classify {s : State} {r : UpRequest} (hmode : s.ctl.mode = .engaging ∨ s.ctl.mode = .regulate)
    (hform : malformed r = false) (htag : duplicate s r = false) :
    (∀ k, classify s r = some k → judge s r = judgeStream s r k) ∧
      (classify s r = none → judge s r = .refused .unclassified none) := by
  refine ⟨fun k hk => ?_, fun hk => ?_⟩
  · rcases hmode with hmode | hmode <;> simp [judge, hmode, hform, htag, hk]
  · rcases hmode with hmode | hmode <;> simp [judge, hmode, hform, htag, hk]

theorem duplicate_iff (s : State) (r : UpRequest) :
    duplicate s r = true ↔
      (∃ k : StreamId, ∃ d ∈ queueOf s k, d.initiator = r.initiator ∧ d.transaction = r.transaction) ∨
      (∃ d ∈ s.store.pass, d.initiator = r.initiator ∧ d.transaction = r.transaction) ∨
      (∃ (t : Tag) (h : Held), s.table.get t = .inFlight h ∧ h.initiator = r.initiator ∧ h.transaction = r.transaction) := by
  rw [duplicate, List.contains_iff_mem, heldTags_eq, List.mem_append, allHeld, List.map_append, List.mem_append, or_assoc,
    streamHeld_eq_flatMap]
  refine or_congr ?_ (or_congr ?_ ?_)
  · simp only [List.mem_map, List.mem_flatMap, List.mem_finRange, true_and, Descriptor.upTag, Prod.mk.injEq]
    exact ⟨fun ⟨d, ⟨k, hd⟩, htag⟩ => ⟨k, d, hd, htag⟩, fun ⟨k, d, hd, htag⟩ => ⟨d, ⟨k, hd⟩, htag⟩⟩
  · simp [Descriptor.upTag]
  · rw [List.mem_filterMap]
    constructor
    · rintro ⟨entry, hentry, htag⟩
      obtain ⟨t, ht⟩ := (Table.mem_cells _ _).1 hentry
      cases entry with
      | free => cases htag
      | orphaned h => cases htag
      | inFlight h =>
        obtain ⟨hinitiator, htransaction⟩ := Prod.mk.inj (Option.some.inj htag)
        exact ⟨t, h, ht, hinitiator, htransaction⟩
    · rintro ⟨t, h, ht, hinitiator, htransaction⟩
      refine ⟨.inFlight h, (Table.mem_cells _ _).2 ⟨t, ht⟩, ?_⟩
      rw [← hinitiator, ← htransaction]
      rfl

/-- A refusal without a stream, by what the gates judge. -/
theorem exec_requestOffer_of_refused {s : State} {header : BitVec 64} {data : List DataUnit} {reason : Reason}
    {k : Option StreamId} (hempty : s.port.offer = none)
    (h : judge s (decodeUpRequest header data) = .refused reason k) :
    exec (.requestOffer header data) s = .next
      (refuseRequest (decodeUpRequest header data).initiator (decodeUpRequest header data).transaction reason k s) := by
  rw [exec_requestOffer_of_empty hempty, evaluate_of_refused h, setOffer_none_of_empty hempty]

theorem exec_requestOffer_of_stall {s : State} {header : BitVec 64} {data : List DataUnit} (hempty : s.port.offer = none)
    (h : judge s (decodeUpRequest header data) = .stall) :
    exec (.requestOffer header data) s = .next (setOffer (some (decodeUpRequest header data)) s) := by
  rw [exec_requestOffer_of_empty hempty, evaluate_of_stall h]

/-- Settles O41: each gate's judgement, then the refusal that names no stream. -/
theorem offersPassTheGates : Obligations.OffersPassTheGates := by
  intro s header data r held refused
  have hrefuse {reason : Reason} {code : Nat} (hempty : s.port.offer = none) (hcode : reason.code = code)
      (h : judge s r = .refused reason none) : refused reason code := by
    subst hcode
    refine ⟨fun hseen => ?_, fun hclear => ?_⟩
    · rw [exec_requestOffer_of_refused hempty h, refuseRequest_of_portRefuseSeen hseen]
      rfl
    · rw [exec_requestOffer_of_refused hempty h, refuseRequest_of_not_portRefuseSeen hclear]
      rfl
  refine ⟨fun hoffer => exec_requestOffer_of_occupied hoffer header data, fun hempty hmode => ?_, duplicate_iff s r,
    fun hempty hmode hform => ⟨fun hheld => ?_, fun hheld hpass hclass => ?_⟩⟩
  · rw [exec_requestOffer_of_stall hempty (judge_of_quiesce hmode _)]
    rfl
  · exact hrefuse hempty rfl (judge_of_duplicate hmode hform ((duplicate_iff s r).2 hheld))
  · have htag : duplicate s r = false := Bool.eq_false_iff.2 (mt (duplicate_iff s r).1 hheld)
    have hregulated : s.ctl.mode = .engaging ∨ s.ctl.mode = .regulate := by
      cases hm : s.ctl.mode with
      | pass => exact absurd hm hpass
      | engaging => exact .inl rfl
      | regulate => exact .inr rfl
      | quiescing =>
        rw [hm] at hmode
        cases hmode
      | quiesced =>
        rw [hm] at hmode
        cases hmode
    exact hrefuse hempty rfl ((judge_of_classify hregulated hform htag).2 hclass)

/-! ### Admission into a stream -/

/-- R68, R69. The capacity step, with its counts written out. -/
theorem capacity_iff (s : State) (k : StreamId) (r : UpRequest) :
    capacity s k r = true ↔
      (queueOf s k).length < (s.streams.get k).queueLimit.toNat ∧ (r.kind = .write → r.length ≤ freeUnits s) ∧
        (if (queueOf s k).length < (s.streams.get k).reserve.toNat then 1 ≤ freeDescriptors s
          else reserveShortfall s + 1 ≤ freeDescriptors s) := by
  have hgrantable : grantable s k = true ↔
      (if (queueOf s k).length < (s.streams.get k).reserve.toNat then 1 ≤ freeDescriptors s
        else reserveShortfall s + 1 ≤ freeDescriptors s) := by
    rw [grantable, queuedCount]
    split <;> exact decide_eq_true_iff
  rw [capacity, Bool.and_eq_true, Bool.and_eq_true, decide_eq_true_iff, decide_eq_true_iff, hgrantable,
    writeUnits_le_iff, and_assoc]
  exact and_congr Iff.rfl and_comm

theorem overBudget_iff (s : State) (k : StreamId) (r : UpRequest) :
    overBudget s k r = true ↔
      (s.streams.get k).overBudget = .refuse ∧
        (s.streams.get k).credit < r.length + ((queueOf s k).map (·.length)).sum := by
  rw [overBudget, Bool.and_eq_true, decide_eq_true_iff, decide_eq_true_iff]
  rfl

theorem judgeStream_of_closed {s : State} {k : StreamId}
    (h : (s.streams.get k).state = .disabled ∨ (s.streams.get k).state = .draining) (r : UpRequest) :
    judgeStream s r k = .refused .closed (some k) := if_pos h

/-- R59. In an ACTIVE or PAUSED stream the budget, the capacity and the full policy decide, in this order. -/
theorem judgeStream_of_open {s : State} {k : StreamId}
    (h : (s.streams.get k).state = .active ∨ (s.streams.get k).state = .paused) (r : UpRequest) :
    (overBudget s k r = true → judgeStream s r k = .refused .overBudget (some k)) ∧
      (overBudget s k r = false → capacity s k r = true → judgeStream s r k = .toStream k) ∧
      (overBudget s k r = false → capacity s k r = false → (s.streams.get k).fullPolicy = .refuse →
        judgeStream s r k = .refused .full (some k)) ∧
      (overBudget s k r = false → capacity s k r = false → (s.streams.get k).fullPolicy = .stall →
        judgeStream s r k = .stall) := by
  have hopen : ¬ ((s.streams.get k).state = .disabled ∨ (s.streams.get k).state = .draining) := by
    rcases h with h | h <;> simp [h]
  refine ⟨fun hb => ?_, fun hb hc => ?_, fun hb hc hp => ?_, fun hb hc hp => ?_⟩
  · rw [judgeStream, if_neg hopen, if_pos hb]
  · rw [judgeStream, if_neg hopen, if_neg (Bool.eq_false_iff.1 hb), if_pos hc]
  · rw [judgeStream, if_neg hopen, if_neg (Bool.eq_false_iff.1 hb), if_neg (Bool.eq_false_iff.1 hc), hp]
  · rw [judgeStream, if_neg hopen, if_neg (Bool.eq_false_iff.1 hb), if_neg (Bool.eq_false_iff.1 hc), hp]

theorem evaluate_of_toStream {s : State} {r : UpRequest} {k : StreamId} (h : judge s r = .toStream k) :
    evaluate r s = acceptStream k r (setOffer none s) := by
  rw [evaluate, h]

/-- R72, R135, R141. A refusal with a stream: the answer, the stream's counter, and the record subject to its latch. -/
theorem refuseRequest_stream (i : BitVec 5) (t : Byte) (reason : Reason) (k : StreamId) (s : State) :
    refuseRequest i t reason (some k) s =
      let s1 : State :=
        { s with
          port :=
            { s.port with
              sent := s.port.sent ++ [{ initiator := i, transaction := t, status := .refused reason, data := [] }] }
          stats :=
            { s.stats with
              streams := s.stats.streams.set k
                { s.stats.streams.get k with
                  refusedRequests := satAdd (s.stats.streams.get k).refusedRequests 1 } } }
      if (s.streams.get k).refusedSeen = true then s1
      else
        { recordNow .refused (some k) (some (i, t)) reason.code s.timer.slot s1 with
          streams := s.streams.set k { s.streams.get k with refusedSeen := true } } := rfl

/-- R58, R71, R94, R141. What an acceptance into a stream's queue changes. -/
theorem acceptStream_eq (k : StreamId) (r : UpRequest) (s : State) :
    acceptStream k r s =
      { s with
        store :=
          { s.store with
            nextSeq := s.store.nextSeq + 1
            queues := s.store.queues.set k (queueOf s k ++ [newDescriptor s r]) }
        stats :=
          { s.stats with
            streams := s.stats.streams.set k
              ((s.stats.streams.get k).countAccepted r.length ((queueOf s k).length + 1)) }
        engine := s.engine.see k } := by
  rw [acceptStream, List.length_append]
  rfl

/-- Settles O44: the verdict of the steps, then its effect written out. -/
theorem streamAdmissionFollowsTheSteps : Obligations.StreamAdmissionFollowsTheSteps := by
  intro s header data k r e q g shortfall overspent room answered count accepted hmode hempty hform htag hclass
  have hjudge : judge s r = judgeStream s r k := (judge_of_classify hmode hform htag).1 k hclass
  have hrefuse {reason : Reason} {code : Nat} (hcode : reason.code = code)
      (h : judgeStream s r k = .refused reason (some k)) :
      exec (.requestOffer header data) s = .next (answered reason code) := by
    subst hcode
    rw [exec_requestOffer_of_refused hempty (hjudge.trans h), refuseRequest_stream]
  have hcapacity : capacity s k r = true ↔ room := capacity_iff s k r
  have hbudget : overBudget s k r = true ↔ overspent := overBudget_iff s k r
  refine ⟨fun hclosed => hrefuse rfl (judgeStream_of_closed hclosed r), fun hopen => ?_⟩
  obtain ⟨hover, haccept, hfull, hstall⟩ := judgeStream_of_open hopen r
  refine ⟨fun hspent => hrefuse rfl (hover (hbudget.2 hspent)), fun hspent hroom => ?_, fun hspent hroom hpolicy => ?_,
    fun hspent hroom hpolicy => ?_⟩
  · have hverdict := haccept (Bool.eq_false_iff.2 (mt hbudget.1 hspent)) (hcapacity.2 hroom)
    rw [exec_requestOffer_of_empty hempty, evaluate_of_toStream (hjudge.trans hverdict), setOffer_none_of_empty hempty,
      acceptStream_eq]
    rfl
  · exact hrefuse rfl (hfull (Bool.eq_false_iff.2 (mt hbudget.1 hspent))
      (Bool.eq_false_iff.2 (mt hcapacity.1 hroom)) hpolicy)
  · have hverdict := hstall (Bool.eq_false_iff.2 (mt hbudget.1 hspent))
      (Bool.eq_false_iff.2 (mt hcapacity.1 hroom)) hpolicy
    rw [exec_requestOffer_of_stall hempty (hjudge.trans hverdict)]
    rfl

/-! ### Deadlines (R75) -/

theorem exec_deadlineCrossing (s : State) : exec .deadlineCrossing s = .next (crossOldest s) := rfl

theorem crossingDue_iff (s : State) (k : StreamId) (d : Descriptor) :
    crossingDue s k d = true ↔
      (s.streams.get k).deadline ≠ 0#16 ∧ d.late = false ∧
        (s.streams.get k).deadline.toNat ≤ (s.timer.tick - d.admTick).toNat := by
  rw [crossingDue, Bool.and_eq_true, Bool.and_eq_true, decide_eq_true_iff, decide_eq_true_iff, Bool.not_eq_true',
    and_assoc]
  rfl

theorem firstDue_eq_none_iff (s : State) (k : StreamId) :
    firstDue s k = none ↔ ∀ d ∈ queueOf s k, ¬ crossingDue s k d = true := List.find?_eq_none

theorem firstDue_of_front {s : State} {k : StreamId} {front back : List Descriptor} {d : Descriptor}
    (hqueue : queueOf s k = front ++ d :: back) (hd : crossingDue s k d = true)
    (hfront : ∀ f ∈ front, ¬ crossingDue s k f = true) : firstDue s k = some d := by
  rw [firstDue, hqueue, List.find?_append, List.find?_eq_none.2 hfront, List.find?_cons_of_pos hd]
  rfl

/-- R75. A stream without a due request leaves the candidate. -/
theorem olderDue_of_none {s : State} {k : StreamId} (h : firstDue s k = none) (best : Option (StreamId × Descriptor)) :
    olderDue s best k = best := by
  cases best <;> simp only [olderDue, h]

theorem oldestDue_of_none {s : State} (h : ∀ k, firstDue s k = none) : oldestDue s = none :=
  List.foldl_fixed' (fun k => olderDue_of_none (h k) none) _

/-- R75. Candidates so far that are all younger than `d`. -/
def YoungerThan (s : State) (d : Descriptor) (best : Option (StreamId × Descriptor)) : Prop :=
  ∀ j f, best = some (j, f) → seqAge s f < seqAge s d

theorem youngerThan_foldl {s : State} {d : Descriptor} {l : List StreamId} {best : Option (StreamId × Descriptor)}
    (hl : ∀ j ∈ l, ∀ f, firstDue s j = some f → seqAge s f < seqAge s d) (hbest : YoungerThan s d best) :
    YoungerThan s d (l.foldl (olderDue s) best) := by
  induction l generalizing best with
  | nil => exact hbest
  | cons j l ih =>
    obtain ⟨hj, hl⟩ := List.forall_mem_cons.1 hl
    refine ih hl ?_
    cases hdue : firstDue s j with
    | none =>
      rw [olderDue_of_none hdue]
      exact hbest
    | some f =>
      cases best with
      | none =>
        simp only [olderDue, hdue]
        rintro _ _ ⟨⟩
        exact hj f hdue
      | some b =>
        simp only [olderDue, hdue]
        split
        · rintro _ _ ⟨⟩
          exact hj f hdue
        · exact hbest

theorem olderDue_of_youngerThan {s : State} {k : StreamId} {d : Descriptor} {best : Option (StreamId × Descriptor)}
    (hd : firstDue s k = some d) (hbest : YoungerThan s d best) : olderDue s best k = some (k, d) := by
  cases best with
  | none => simp only [olderDue, hd]
  | some b =>
    simp only [olderDue, hd]
    exact if_pos (decide_eq_true (hbest b.1 b.2 rfl))

theorem foldl_olderDue_of_oldest {s : State} {k : StreamId} {d : Descriptor} {l : List StreamId}
    (hl : ∀ j ∈ l, ∀ f, firstDue s j = some f → seqAge s f < seqAge s d) :
    l.foldl (olderDue s) (some (k, d)) = some (k, d) := by
  induction l with
  | nil => rfl
  | cons j l ih =>
    obtain ⟨hj, hl⟩ := List.forall_mem_cons.1 hl
    have hstay : olderDue s (some (k, d)) j = some (k, d) := by
      cases hdue : firstDue s j with
      | none => exact olderDue_of_none hdue _
      | some f =>
        have hyounger := hj f hdue
        simp only [olderDue, hdue, older]
        exact if_neg (by simp; omega)
    rw [List.foldl_cons, hstay, ih hl]

/-- R75. The first due request of a stream is the oldest when every other stream's is younger. -/
theorem oldestDue_of_oldest {s : State} {k : StreamId} {d : Descriptor} (hd : firstDue s k = some d)
    (hothers : ∀ j ≠ k, ∀ f, firstDue s j = some f → seqAge s f < seqAge s d) : oldestDue s = some (k, d) := by
  obtain ⟨before, after, hsplit⟩ := List.append_of_mem (List.mem_finRange k)
  have hnodup := List.nodup_finRange numStreams
  rw [hsplit] at hnodup
  obtain ⟨-, hafter, hdisjoint⟩ := List.nodup_append.1 hnodup
  have hbefore : ∀ j ∈ before, j ≠ k := fun j hj => hdisjoint j hj k (List.mem_cons_self ..)
  have hlater : ∀ j ∈ after, j ≠ k := fun j hj h => (List.nodup_cons.1 hafter).1 (h ▸ hj)
  have hyoung : YoungerThan s d (before.foldl (olderDue s) none) :=
    youngerThan_foldl (fun j hj => hothers j (hbefore j hj)) nofun
  rw [oldestDue, hsplit, List.foldl_append, List.foldl_cons, olderDue_of_youngerThan hd hyoung,
    foldl_olderDue_of_oldest fun j hj => hothers j (hlater j hj)]

/-- R75. What the crossing of the first due request changes, by the latch. -/
theorem cross_eq {s : State} {k : StreamId} {front back : List Descriptor} {d : Descriptor}
    (hqueue : queueOf s k = front ++ d :: back) (hd : crossingDue s k d = true)
    (hfront : ∀ f ∈ front, ¬ crossingDue s k f = true) :
    cross k d s =
      let s1 : State :=
        { s with
          store := { s.store with queues := s.store.queues.set k (front ++ { d with late := true } :: back) }
          stats :=
            { s.stats with
              streams := s.stats.streams.set k
                { s.stats.streams.get k with lateRequests := satAdd (s.stats.streams.get k).lateRequests 1 } } }
      if (s.streams.get k).lateSeen = true then s1
      else
        { recordNow .late (some k) (some (d.initiator, d.transaction)) (s.streams.get k).deadline.toNat s.timer.slot s1 with
          streams := s.streams.set k { s.streams.get k with lateSeen := true } } := by
  have hmark := markLate_append (p := crossingDue s k) (back := back)
    (fun f hf => Bool.eq_false_iff.2 (hfront f hf)) hd
  rw [cross, hqueue, hmark]
  rfl

/-- Settles O46: the oldest due request is found by comparing the streams' first due ones. -/
theorem oldestDueRequestCrosses : Obligations.OldestDueRequestCrosses := by
  refine fun s => ⟨fun hnone => ?_, fun k front back d hqueue hd hfront hothers => ?_⟩
  · have hdue : oldestDue s = none := oldestDue_of_none fun k =>
      (firstDue_eq_none_iff s k).2 fun d hd => mt (crossingDue_iff s k d).1 (hnone k d hd)
    rw [exec_deadlineCrossing, crossOldest, hdue]
  · have hd := (crossingDue_iff s k d).2 hd
    have hfront : ∀ f ∈ front, ¬ crossingDue s k f = true := fun f hf => mt (crossingDue_iff s k f).1 (hfront f hf)
    have holdest : oldestDue s = some (k, d) := by
      refine oldestDue_of_oldest (firstDue_of_front hqueue hd hfront) fun j hj f hf => ?_
      exact hothers j hj f (List.mem_of_find?_eq_some hf) ((crossingDue_iff s j f).1 (List.find?_some hf))
    have hcross := cross_eq hqueue hd hfront
    refine ⟨?_, fun hseen => ?_, fun hclear => ?_⟩
    · rw [exec_deadlineCrossing, crossOldest, holdest]
    · rw [hcross]
      exact if_pos hseen
    · rw [hcross]
      exact if_neg (Bool.eq_false_iff.1 hclear)

/-! ### Records (R130, R131) -/

theorem isOverflow_iff (r : EventRecord) : r.isOverflow = true ↔ r.kind = .overflow := decide_eq_true_iff

theorem hasOverflow_eq_false_iff (rs : List EventRecord) :
    hasOverflow rs = false ↔ ∀ x ∈ rs, x.kind ≠ .overflow := by
  simp [hasOverflow, EventRecord.isOverflow]

/-- R130. A record presented to a queue with room is stored. -/
theorem present_of_room {s : State} {r : EventRecord} (hnone : hasOverflow s.events.records = false)
    (hroom : s.events.records.length < 31) :
    present r s = { s with events := { s.events with records := s.events.records ++ [r] } } := by
  have hstore : storeRecord s.events.records r = s.events.records ++ [r] := by
    rw [storeRecord, hnone]
    exact (if_neg nofun).trans (if_pos hroom)
  have hloses : loses s.events.records = false := by
    rw [loses, hnone]
    simpa using hroom
  rw [present, hstore, hloses]
  rfl

/-- R131. The first record lost leaves the OVERFLOW record. -/
theorem present_of_full {s : State} {r : EventRecord} (hnone : hasOverflow s.events.records = false)
    (hfull : s.events.records.length = 31) :
    present r s =
      { s with
        events := { s.events with records := s.events.records ++ [r.overflowFor] }
        stats :=
          { s.stats with
            globals := { s.stats.globals with eventsLost := satAdd s.stats.globals.eventsLost 1 } } } := by
  have hstore : storeRecord s.events.records r = s.events.records ++ [r.overflowFor] := by
    rw [storeRecord, hnone]
    exact (if_neg nofun).trans (if_neg hfull.not_lt)
  have hloses : loses s.events.records = true := by
    rw [loses, hnone, hfull]
    rfl
  rw [present, hstore, hloses]
  rfl

/-- R131. A record lost to the OVERFLOW record raises its count alone. -/
theorem present_of_overflow {s : State} {front : List EventRecord} {o : EventRecord} (r : EventRecord)
    (hrecords : s.events.records = front ++ [o]) (ho : o.kind = .overflow) (hfront : ∀ x ∈ front, x.kind ≠ .overflow) :
    present r s =
      { s with
        events := { s.events with records := front ++ [{ o with detail := satSucc16 o.detail }] }
        stats :=
          { s.stats with
            globals := { s.stats.globals with eventsLost := satAdd s.stats.globals.eventsLost 1 } } } := by
  have hhas : hasOverflow s.events.records = true := by
    rw [hrecords, hasOverflow, List.any_append]
    simp [EventRecord.isOverflow, ho]
  have hkeep : front.map EventRecord.countLoss = front :=
    (List.map_congr_left fun x hx => if_neg (mt (isOverflow_iff x).1 (hfront x hx))).trans (List.map_id front)
  have hcount : o.countLoss = { o with detail := satSucc16 o.detail } := if_pos ((isOverflow_iff o).2 ho)
  have hstore : storeRecord s.events.records r = front ++ [{ o with detail := satSucc16 o.detail }] := by
    rw [storeRecord, hhas, if_pos rfl, hrecords, List.map_append, hkeep, List.map_singleton, hcount]
  have hloses : loses s.events.records = true := by
    rw [loses, hhas]
    rfl
  rw [present, hstore, hloses]
  rfl

theorem attn_iff (s : State) :
    attn s = true ↔ ∃ x ∈ s.events.records, s.settings.mask.getLsbD x.kind.category.bit = true := by
  rw [attn, List.any_eq_true]

/-- Settles O53: whether the OVERFLOW record is held, and room, decide. -/
theorem presentedRecordIsStoredOrLost : Obligations.PresentedRecordIsStoredOrLost := by
  intro s kind stream request detail slot hlaw
  refine ⟨fun hnone hroom => ?_, fun hnone hfull => ?_, fun front o hrecords ho => ?_, ?_⟩
  · exact present_of_room ((hasOverflow_eq_false_iff _).2 hnone) (Nat.lt_succ_of_le hroom)
  · exact present_of_full ((hasOverflow_eq_false_iff _).2 hnone) hfull
  · obtain ⟨-, -, hordinary⟩ := hlaw
    have hfront : ∀ x ∈ front, x.kind ≠ .overflow := by
      rw [hrecords, List.dropLast_concat, all_isOrdinary_iff] at hordinary
      exact (hasOverflow_eq_false_iff front).1 hordinary
    exact present_of_overflow _ hrecords ho hfront
  · refine (attn_iff s).trans (exists_congr fun x => and_congr_right fun _ => ?_)
    cases x.kind <;> exact Iff.rfl

/-! ### Completions -/

theorem quiesceIfDue_eq_self_iff (s : State) : quiesceIfDue s = s ↔ quiesceDue s = false := by
  refine ⟨fun h => Bool.eq_false_iff.2 fun hdue => ?_, fun h => if_neg (Bool.eq_false_iff.1 h)⟩
  have hmode : (quiesceIfDue s).ctl.mode = .quiesced := by
    rw [quiesceIfDue, if_pos hdue]
    rfl
  rw [h, ((quiesceDue_iff s).1 hdue).1] at hmode
  cases hmode

theorem settleCounts_of_closed {s : State} {k : StreamId} (h : drained s k = true) :
    settleCounts (some k) s = reevaluate (quiesceIfDue (closeStream k 1 s)) := by
  simp [settleCounts, closeOf, closesOf, closeIfDrained, h]

/-- R7. Without a close, the counts settle as they do for no stream. -/
theorem settleCounts_of_not_drained {s : State} {k : StreamId} (h : ¬ drained s k = true) :
    settleCounts (some k) s = settleCounts none s := by
  simp [settleCounts, closeOf, closesOf, closeIfDrained, h]

theorem settleCounts_none (s : State) :
    (quiesceIfDue s = s → settleCounts none s = s) ∧
      (quiesceIfDue s ≠ s → settleCounts none s = reevaluate (quiesceIfDue s)) := by
  have hsettle : settleCounts none s = if quiesceDue s then reevaluate (quiesceIfDue s) else quiesceIfDue s := rfl
  refine ⟨fun h => ?_, fun h => ?_⟩
  · rw [hsettle, if_neg (Bool.eq_false_iff.1 ((quiesceIfDue_eq_self_iff s).1 h)), h]
  · rw [hsettle, if_pos]
    by_contra hdue
    exact h ((quiesceIfDue_eq_self_iff s).2 (Bool.eq_false_iff.2 hdue))

theorem inFlightCount_eq_zero_iff (s : State) (k : StreamId) :
    inFlightCount s k = 0 ↔ ∀ (t : Tag) (h : Held), s.table.get t = .inFlight h → h.stream ≠ .stream k := by
  rw [inFlightCount, List.countP_eq_zero]
  constructor
  · intro hcount t h ht hk
    exact hcount _ ((Table.mem_cells _ _).2 ⟨t, ht⟩) (decide_eq_true hk)
  · intro hentries entry hentry
    obtain ⟨t, ht⟩ := (Table.mem_cells _ _).1 hentry
    cases entry with
    | free => exact nofun
    | orphaned h => exact nofun
    | inFlight h => exact fun hk => hentries t h ht (of_decide_eq_true hk)

theorem quiesceQueues_iff (s : State) :
    quiesceQueues s = true ↔
      (s.ctl.returnMode = .pass → s.store.pass = []) ∧
        (s.ctl.returnMode = .regulate → ∀ k : StreamId, queueOf s k = [] ∨ (s.streams.get k).state = .paused) := by
  cases h : s.ctl.returnMode with
  | pass => simp [quiesceQueues_of_pass h]
  | regulate => simp [quiesceQueues_of_regulate h]

theorem completeQuiesce_eq (s : State) :
    completeQuiesce s =
      recordNow .quiesced none none (if s.ctl.returnMode = .pass then 0 else 2) none
        { s with ctl := { s.ctl with mode := .quiesced, pendingOp := .none } } := by
  have hcode : s.ctl.returnMode.mode.code.toNat = if s.ctl.returnMode = .pass then 0 else 2 := by
    cases s.ctl.returnMode <;> rfl
  rw [completeQuiesce, hcode]
  rfl

theorem exec_engagementCompletion (s : State) :
    exec .engagementCompletion s = .next (if engagementDue s = true then reevaluate (completeEngagement s) else s) := rfl

theorem exec_quiesceCompletion (s : State) :
    exec .quiesceCompletion s = .next (if quiesceDue s = true then reevaluate (completeQuiesce s) else s) := rfl

theorem exec_streamAutomaticClose (k : StreamId) (s : State) :
    exec (.streamAutomaticClose k) s = .next (if drained s k = true then settleCounts (some k) s else s) := rfl

/-- Settles O52: each completion by its condition, and the settling of the counts by both. -/
theorem completionsFollowTheirConditions : Obligations.CompletionsFollowTheirConditions := by
  refine ⟨fun s hmode hpass => ?_, fun s hnot => ?_, fun s => ?_, fun s k => ?_, settleCounts_none⟩
  · have hdue : engagementDue s = true := (engagementDue_iff s).2 ⟨hmode, hpass⟩
    refine ⟨if_pos hdue, ?_, fun htiming => ?_, fun htiming => ?_⟩
    · rw [exec_engagementCompletion, if_pos hdue]
    · exact completeEngagement_of_source (c := s.ctl) htiming
    · exact completeEngagement_of_follow (c := s.ctl) htiming
  · have hdue : ¬ engagementDue s = true := fun h =>
      hnot.elim (fun hm => hm ((engagementDue_iff s).1 h).1) (fun hp => hp ((engagementDue_iff s).1 h).2)
    exact ⟨if_neg hdue, by rw [exec_engagementCompletion, if_neg hdue]⟩
  · intro holds done
    have hdue : quiesceDue s = true ↔ holds := by
      rw [quiesceDue_iff, quiesceQueues_iff, inFlightTotal_eq_zero_iff]
      exact and_congr Iff.rfl and_comm
    refine ⟨fun h => ?_, fun h => ?_⟩
    · have hdone : completeQuiesce s = done := completeQuiesce_eq s
      exact ⟨(if_pos (hdue.2 h)).trans hdone, by rw [exec_quiesceCompletion, if_pos (hdue.2 h), hdone]⟩
    · exact ⟨if_neg (mt hdue.1 h), by rw [exec_quiesceCompletion, if_neg (mt hdue.1 h)]⟩
  · intro e holds closed
    have hdrained : drained s k = true ↔ holds := by
      rw [drained_iff, inFlightCount_eq_zero_iff]
    have hclosed : closeStream k 1 s = closed := rfl
    refine ⟨fun h => ⟨(if_pos (hdrained.2 h)).trans hclosed, ?_⟩, fun h => ⟨if_neg (mt hdrained.1 h), ?_, ?_, ?_⟩,
      fun h => ?_⟩
    · rw [exec_streamAutomaticClose, if_pos (hdrained.2 h), settleCounts_of_closed (hdrained.2 h), hclosed]
    · rw [exec_streamAutomaticClose, if_neg (mt hdrained.1 h)]
    · rw [settleCounts_of_not_drained (mt hdrained.1 h)]
      exact (settleCounts_none s).1
    · rw [settleCounts_of_not_drained (mt hdrained.1 h)]
      exact (settleCounts_none s).2
    · rw [settleCounts_of_closed (hdrained.2 h), hclosed]

/-! ### Response timeouts -/

theorem exec_responseTimeoutExpiry (t : Tag) (s : State) :
    exec (.responseTimeoutExpiry t) s = .next (expireIfDue t s) := rfl

theorem expireIfDue_of_due {s : State} {t : Tag} {h : Held} (hdue : expiryDue s t = some h) :
    expireIfDue t s = expire t h s := by
  rw [expireIfDue, hdue]

theorem expireIfDue_of_none {s : State} {t : Tag} (hdue : expiryDue s t = none) : expireIfDue t s = s := by
  rw [expireIfDue, hdue]

/-- R106. What an expiry changes, for an entry of a stream. -/
theorem expire_of_stream {h : Held} {k : StreamId} (hstream : h.stream = .stream k) (t : Tag) (s : State) :
    expire t h s =
      settleCounts (some k)
        (recordNow .respTimeout (some k) (some (h.initiator, h.transaction)) t.val s.timer.slot
          { s with
            port :=
              { s.port with
                sent := s.port.sent ++
                  [{ initiator := h.initiator, transaction := h.transaction, status := .timeout, data := [] }] }
            table := s.table.set t (.orphaned h)
            stats :=
              { s.stats with
                streams := s.stats.streams.set k
                  { s.stats.streams.get k with timeouts := satAdd (s.stats.streams.get k).timeouts 1 }
                globals := { s.stats.globals with timeouts := satAdd s.stats.globals.timeouts 1 } } }) := by
  rw [expire, Held.eventStream, hstream]
  rfl

/-- R106. What an expiry changes, for an entry of no stream. -/
theorem expire_of_no_stream {h : Held} (hstream : h.stream = .pass ∨ h.stream = .nobody) (t : Tag) (s : State) :
    expire t h s =
      settleCounts none
        (recordNow .respTimeout none (some (h.initiator, h.transaction)) t.val s.timer.slot
          { s with
            port :=
              { s.port with
                sent := s.port.sent ++
                  [{ initiator := h.initiator, transaction := h.transaction, status := .timeout, data := [] }] }
            table := s.table.set t (.orphaned h)
            stats :=
              { s.stats with
                globals := { s.stats.globals with timeouts := satAdd s.stats.globals.timeouts 1 } } }) := by
  rcases hstream with hstream | hstream
  · rw [expire, Held.eventStream, hstream]
    rfl
  · rw [expire, Held.eventStream, hstream]
    rfl

theorem expiryDue_eq_none {s : State} {t : Tag}
    (h : s.table.get t = .free ∨ (∃ h, s.table.get t = .orphaned h) ∨
      (∃ h, s.table.get t = .inFlight h ∧
        (s.settings.responseTimeout = 0#16 ∨
          (s.timer.tick - h.relTick).toNat < s.settings.responseTimeout.toNat))) : expiryDue s t = none := by
  by_contra hsome
  obtain ⟨g, hg⟩ := Option.ne_none_iff_exists'.1 hsome
  obtain ⟨hget, hon, hage⟩ := expiryDue_some.1 hg
  obtain h | ⟨f, h⟩ | ⟨f, h, hoff | hyoung⟩ := h
  · rw [h] at hget
    cases hget
  · rw [h] at hget
    cases hget
  · exact hon hoff
  · rw [h] at hget
    cases hget
    exact hyoung.not_ge hage

/-- Settles O51: the expiry that is due, by the entry's stream. -/
theorem responseTimeoutOrphansTheEntry : Obligations.ResponseTimeoutOrphansTheEntry := by
  refine ⟨fun s t h hget hon hage => ?_, fun s t hnone => ?_⟩
  · rw [exec_responseTimeoutExpiry, expireIfDue_of_due (expiryDue_some.2 ⟨hget, hon, hage⟩)]
    obtain ⟨initiator, transaction, stream, kind, length, admTick, relTick⟩ := h
    cases stream with
    | stream k => rw [expire_of_stream rfl]
    | pass => rw [expire_of_no_stream (.inl rfl)]
    | nobody => rw [expire_of_no_stream (.inr rfl)]
  · rw [exec_responseTimeoutExpiry, expireIfDue_of_none (expiryDue_eq_none hnone)]

/-! ### Response arrivals -/

theorem exec_responseArrival (header : BitVec 32) (data : List DataUnit) (s : State) :
    exec (.responseArrival header data) s = .next (arrive (decodeDownResponse header data) s) := rfl

theorem arrive_of_inFlight {r : DownResponse} {s : State} {t : Tag} {h : Held} (ht : r.tag.toNat = t.val)
    (hget : s.table.get t = .inFlight h) : arrive r s = forward t h r s := by
  have hlt : r.tag.toNat < numTags := ht ▸ t.isLt
  have htag : (⟨r.tag.toNat, hlt⟩ : Tag) = t := Fin.ext ht
  rw [arrive, dif_pos hlt, htag, hget]

theorem arrive_of_orphaned {r : DownResponse} {s : State} {t : Tag} {h : Held} (ht : r.tag.toNat = t.val)
    (hget : s.table.get t = .orphaned h) : arrive r s = lateResponse t h s := by
  have hlt : r.tag.toNat < numTags := ht ▸ t.isLt
  have htag : (⟨r.tag.toNat, hlt⟩ : Tag) = t := Fin.ext ht
  rw [arrive, dif_pos hlt, htag, hget]

theorem arrive_of_unexpected {r : DownResponse} {s : State}
    (h : 48 ≤ r.tag.toNat ∨ ∃ t : Tag, r.tag.toNat = t.val ∧ s.table.get t = .free) :
    arrive r s = unexpectedResponse r.tag s := by
  rcases h with h | ⟨t, ht, hget⟩
  · exact dif_neg (Nat.not_lt.2 h)
  · have hlt : r.tag.toNat < numTags := ht ▸ t.isLt
    have htag : (⟨r.tag.toNat, hlt⟩ : Tag) = t := Fin.ext ht
    rw [arrive, dif_pos hlt, htag, hget]

/-- Two changes of one group are one. -/
theorem updStats_updStats (k : StreamId) (f g : StreamStats → StreamStats) (s : State) :
    updStats k f (updStats k g s) = updStats k (fun c => f (g c)) s := by
  simp only [updStats, State.withStats_stats, Table.get_set_self, Table.set_set]
  rfl

theorem setEntry_updStats (t : Tag) (e : Entry) (k : StreamId) (f : StreamStats → StreamStats) (s : State) :
    setEntry t e (updStats k f s) = updStats k f (setEntry t e s) := rfl

theorem recordNow_updStats (kind : EventKind) (stream : Option StreamId) (request : Option (BitVec 5 × Byte))
    (detail : Nat) (slot : Option SlotId) (k : StreamId) (f : StreamStats → StreamStats) (s : State) :
    recordNow kind stream request detail slot (updStats k f s) =
      updStats k f (recordNow kind stream request detail slot s) := rfl

theorem setEntry_recordNow (kind : EventKind) (stream : Option StreamId) (request : Option (BitVec 5 × Byte))
    (detail : Nat) (slot : Option SlotId) (t : Tag) (e : Entry) (s : State) :
    setEntry t e (recordNow kind stream request detail slot s) =
      recordNow kind stream request detail slot (setEntry t e s) := rfl

/-- R102. The response is on its way upstream, and its entry is FREE. -/
def forwarded (t : Tag) (h : Held) (r : DownResponse) (s : State) : State :=
  setEntry t .free
    (emitUp { initiator := h.initiator, transaction := h.transaction, status := forwardStatus r.ok,
              data := forwardData h r } s)

theorem forward_of_ok {r : DownResponse} (hok : r.ok = true) (t : Tag) (h : Held) (s : State) :
    forward t h r s =
      settleCounts h.eventStream
        (updStatsOf h.stream (StreamStats.complete (elapsed s.timer.tick h.admTick)) (forwarded t h r s)) := by
  rw [forward, if_pos hok]
  cases h.stream <;> rfl

/-- R103, R104. A memory error's counters rise with those of the completion, and its record stands beside them. -/
theorem forward_of_memoryError {r : DownResponse} (hok : r.ok = false) (t : Tag) (h : Held) (s : State) :
    forward t h r s =
      settleCounts h.eventStream
        (updStatsOf h.stream (fun c => (StreamStats.memoryError c).complete (elapsed s.timer.tick h.admTick))
          (recordNow .memoryError h.eventStream (some (h.initiator, h.transaction)) t.val s.timer.slot
            (forwarded t h r s))) := by
  rw [forward, if_neg (Bool.eq_false_iff.1 hok), reportError, forwarded, ← setEntry_recordNow]
  cases h.stream with
  | stream k =>
    simp only [updStatsOf]
    rw [recordNow_updStats, updStats_updStats, setEntry_updStats]
    rfl
  | pass => rfl
  | nobody => rfl

/-- Settles O50: the entry that the tag names decides, and for an IN_FLIGHT entry its stream and the status. -/
theorem responseArrivalActsByTheEntry : Obligations.ResponseArrivalActsByTheEntry := by
  intro s header data r g
  refine ⟨fun t h ht hget => ?_, fun t h ht hget => ?_, fun hunexpected => ?_⟩
  · rw [exec_responseArrival, arrive_of_inFlight ht hget]
    clear_value r
    obtain ⟨initiator, transaction, stream, kind, length, admTick, relTick⟩ := h
    cases hok : r.ok with
    | true =>
      rw [forward_of_ok hok, forwarded, forwardStatus, forwardData]
      simp only [hok, if_true]
      cases stream <;> rfl
    | false =>
      rw [forward_of_memoryError hok, forwarded, forwardStatus, forwardData]
      simp only [hok, Bool.false_eq_true, if_false]
      cases stream <;> rfl
  · rw [exec_responseArrival, arrive_of_orphaned ht hget]
    obtain ⟨initiator, transaction, stream, kind, length, admTick, relTick⟩ := h
    cases stream <;> rfl
  · rw [exec_responseArrival, arrive_of_unexpected hunexpected]
    rfl

/-! ### The selection (R78, R79, R85 to R89) -/

theorem exec_release (s : State) : exec .release s = .next (releaseIfDue s) := rfl

theorem freeTag_of_lowestFree {s : State} {t : Tag} (h : lowestFree s t) : freeTag s = some t := by
  obtain ⟨hfree, hlow⟩ := h
  refine find?_finRange_eq_some ?_ fun u hu => ?_
  · rw [hfree]
    rfl
  · cases hget : s.table.get u with
    | free => exact absurd hget (hlow u hu)
    | inFlight h => exact nofun
    | orphaned h => exact nofun

theorem freeTag_eq_none {s : State} (h : ∀ t : Tag, s.table.get t ≠ .free) : freeTag s = none := by
  refine List.find?_eq_none.2 fun t _ => ?_
  cases hget : s.table.get t with
  | free => exact absurd hget (h t)
  | inFlight h => exact nofun
  | orphaned h => exact nofun

theorem releaseDue_of_selected {s : State} {w : Winner} {t : Tag} (hready : s.dp.ready = true)
    (hfree : lowestFree s t) (hw : selected s = some w) : releaseDue s = some (w, t) := by
  rw [releaseDue, if_pos hready, hw, freeTag_of_lowestFree hfree]

theorem releaseDue_eq_none {s : State}
    (h : s.dp.ready = false ∨ (∀ t : Tag, s.table.get t ≠ .free) ∨ selected s = none) : releaseDue s = none := by
  obtain h | h | h := h
  · exact if_neg (Bool.eq_false_iff.1 h)
  · rw [releaseDue, freeTag_eq_none h]
    cases selected s <;> exact ite_self _
  · rw [releaseDue, h]
    exact ite_self _

theorem exec_release_of_none {s : State} (h : releaseDue s = none) : exec .release s = .next s := by
  rw [exec_release, releaseIfDue, h]

theorem selected_of_releasesPass {s : State} (h : releasesPass s.ctl) : selected s = selectPass s := by
  obtain h | h | ⟨h, hreturn⟩ := h
  · rw [selected, h]
  · rw [selected, h]
  · rw [selected, h, hreturn]

theorem selected_of_releasesByWindow {s : State} (h : releasesByWindow s.ctl) : selected s = selectByWindow s := by
  obtain h | ⟨h, hreturn⟩ := h
  · rw [selected, h]
  · rw [selected, h, hreturn]

theorem selected_of_quiesced {s : State} (h : s.ctl.mode = .quiesced) : selected s = none := by
  rw [selected, h]

/-- R85, R88. The windows in which the round-robin selects: OPEN ones, and a lent slot without an eligible owner. -/
def OpenWindow (s : State) : Prop :=
  window s = .gap .openAll ∨ (∃ i entry, window s = .slot i entry ∧ entry.owner = .openAll) ∨
    (∃ i entry, window s = .slot i entry ∧ entry.owner = .stream ∧ entry.lend = true ∧
      ∀ j : StreamId, entry.number.toNat = j.val → ownerEligible s j = false)

/-- R86, R87. A slot whose owner is not eligible is released by the round-robin when it lends, and not at all
otherwise. -/
theorem ownedSlot_of_not_eligible {s : State} {entry : SlotEntry} (howner : entry.owner = .stream)
    (h : ∀ j : StreamId, entry.number.toNat = j.val → ownerEligible s j = false) :
    ownedSlot s entry = if entry.lend = true then roundRobin s else none := by
  rw [ownedSlot]
  split
  · next k hk =>
    have hnumber : entry.number.toNat = k.val := by
      rw [SlotEntry.ownerStream, if_pos howner] at hk
      split at hk
      · cases hk
        rfl
      · cases hk
    rw [h k hnumber]
    rfl
  · rfl

theorem selectByWindow_of_open {s : State} (h : OpenWindow s) : selectByWindow s = roundRobin s := by
  obtain h | ⟨i, entry, h, howner⟩ | ⟨i, entry, h, howner, hlend, helig⟩ := h
  · simp only [selectByWindow, h]
  · simp only [selectByWindow, h, howner]
  · simp only [selectByWindow, h, howner, ownedSlot_of_not_eligible howner helig, hlend, if_true]

theorem roundRobin_of_winner {s : State} {k : StreamId} (hk : openEligible s k = true)
    (hfirst : ∀ j : Nat, j < (k - s.engine.pointer).val → openEligible s (s.engine.pointer + Fin.ofNat 24 j) = false) :
    roundRobin s = some (.roundRobin k) := by
  have hreach : s.engine.pointer + (k - s.engine.pointer) = k := add_sub_cancel _ _
  have hfind : (List.finRange numStreams).find? (openEligible s ∘ fun j => s.engine.pointer + j) =
      some (k - s.engine.pointer) := by
    refine find?_finRange_eq_some ?_ fun j hj => ?_
    · rw [Function.comp_apply, hreach, hk]
    · rw [Function.comp_apply]
      have hindex : (Fin.ofNat 24 j.val : StreamId) = j := Fin.ext (Nat.mod_eq_of_lt j.isLt)
      have hbefore := hfirst j.val hj
      rw [hindex] at hbefore
      exact Bool.eq_false_iff.1 hbefore
  rw [roundRobin, searchOrder, List.find?_map, hfind, Option.map_some, hreach, Option.map_some]

theorem roundRobin_eq_none {s : State} (h : ∀ k : StreamId, openEligible s k = false) : roundRobin s = none := by
  have hfind : (searchOrder s.engine.pointer).find? (openEligible s) = none :=
    List.find?_eq_none.2 fun k _ => by rw [h k]; exact nofun
  rw [roundRobin, hfind]
  rfl

/-! ### The hand-off -/

theorem charge_eq (length : Nat) (e : StreamEntry) :
    e.charge length = { e with credit := if length ≤ e.credit then e.credit - length else e.credit } := by
  rw [StreamEntry.charge]
  split <;> rfl

/-- R89 to R92, R94, R142. What the release of a stream's head changes. -/
theorem sendHead_eq (k : StreamId) (d : Descriptor) (rest : List Descriptor) (robin : Bool) (t : Tag) (s : State) :
    sendHead k d rest robin t s =
      { s with
        store := { s.store with queues := s.store.queues.set k rest }
        table := s.table.set t
          (.inFlight
            { initiator := d.initiator, transaction := d.transaction, stream := .stream k, kind := d.kind,
              length := d.length, admTick := d.admTick, relTick := s.timer.tick })
        dp :=
          { ready := false
            sent := s.dp.sent ++
              [{ tag := t, kind := d.kind, unitAddr := d.unitAddr, length := d.length, data := d.data }] }
        streams := s.streams.set k
          { s.streams.get k with
            credit := if d.length ≤ (s.streams.get k).credit then (s.streams.get k).credit - d.length
              else (s.streams.get k).credit }
        stats :=
          { s.stats with
            streams := s.stats.streams.set k
              (if d.length ≤ (s.streams.get k).credit then
                { s.stats.streams.get k with
                  chargedUnits := satAdd (s.stats.streams.get k).chargedUnits d.length }
               else
                { s.stats.streams.get k with
                  borrowedUnits := satAdd (s.stats.streams.get k).borrowedUnits d.length }) }
        engine :=
          { pointer := if robin = true then k + 1 else s.engine.pointer
            outcome := s.engine.outcome.map fun o => if o.owner = some k then { o with released := true } else o } } := by
  have hrelease : StreamStats.release (affordable s k d) d.length (s.stats.streams.get k) =
      if d.length ≤ (s.streams.get k).credit then
        { s.stats.streams.get k with chargedUnits := satAdd (s.stats.streams.get k).chargedUnits d.length }
      else
        { s.stats.streams.get k with borrowedUnits := satAdd (s.stats.streams.get k).borrowedUnits d.length } := by
    rw [StreamStats.release, affordable]
    simp only [decide_eq_true_iff]
  rw [← hrelease, ← charge_eq]
  cases robin <;> rfl

theorem exec_release_of_owner {s : State} {k : StreamId} {d : Descriptor} {rest : List Descriptor} {t : Tag}
    (hdue : releaseDue s = some (.owner k, t)) (hqueue : queueOf s k = d :: rest) :
    exec .release s = .next (reevaluate (quiesceIfDue (closeIfDrained k (sendHead k d rest false t s)))) := by
  rw [exec_release, releaseIfDue, hdue]
  exact congrArg Host.Outcome.next (releaseStream_cons hqueue)

theorem exec_release_of_roundRobin {s : State} {k : StreamId} {d : Descriptor} {rest : List Descriptor} {t : Tag}
    (hdue : releaseDue s = some (.roundRobin k, t)) (hqueue : queueOf s k = d :: rest) :
    exec .release s = .next (reevaluate (quiesceIfDue (closeIfDrained k (sendHead k d rest true t s)))) := by
  rw [exec_release, releaseIfDue, hdue]
  exact congrArg Host.Outcome.next (releaseStream_cons hqueue)

theorem exec_release_of_pass {s : State} {d : Descriptor} {rest : List Descriptor} {t : Tag}
    (hdue : releaseDue s = some (.pass, t)) (hpass : s.store.pass = d :: rest) :
    exec .release s = .next (reevaluate (quiesceIfDue (engageIfDue (sendPass d rest t s)))) := by
  rw [exec_release, releaseIfDue, hdue]
  exact congrArg Host.Outcome.next (releasePass_cons hpass)

theorem countPass_eq (c : Control) :
    c.countPass = { c with engaged := if c.mode = .engaging then c.engaged + 1 else c.engaged } := by
  rw [Control.countPass]
  split <;> rfl

/-- R80, R91, R117, R155. What the release of the pass queue's head changes. -/
theorem sendPass_eq (d : Descriptor) (rest : List Descriptor) (t : Tag) (s : State) :
    sendPass d rest t s =
      { s with
        store := { s.store with pass := rest }
        table := s.table.set t
          (.inFlight
            { initiator := d.initiator, transaction := d.transaction, stream := .pass, kind := d.kind,
              length := d.length, admTick := d.admTick, relTick := s.timer.tick })
        dp :=
          { ready := false
            sent := s.dp.sent ++
              [{ tag := t, kind := d.kind, unitAddr := d.unitAddr, length := d.length, data := d.data }] }
        stats :=
          { s.stats with
            globals := { s.stats.globals with passReleases := satAdd s.stats.globals.passReleases 1 } }
        ctl := { s.ctl with engaged := if s.ctl.mode = .engaging then s.ctl.engaged + 1 else s.ctl.engaged } } := by
  rw [← countPass_eq]
  rfl

/-- Settles O47: the pass queue's head wins in the modes that serve the pass queue. -/
theorem passReleaseSendsTheHead : Obligations.PassReleaseSendsTheHead := by
  refine ⟨fun s => rfl, fun s d rest t hready hfree hmode hpass => ?_⟩
  have hselected : selected s = some .pass := by
    rw [selected_of_releasesPass hmode, selectPass, hpass]
    rfl
  rw [exec_release_of_pass (releaseDue_of_selected hready hfree hselected) hpass, sendPass_eq]

theorem selectByWindow_of_owner {s : State} {k : StreamId} {i : SlotId} {entry : SlotEntry}
    (hwindow : window s = .slot i entry) (howner : entry.owner = .stream) (hnumber : entry.number.toNat = k.val)
    (helig : ownerEligible s k = true) : selectByWindow s = some (.owner k) := by
  simp only [selectByWindow, hwindow, howner, ownedSlot, ownerStream_of_stream howner hnumber, helig, if_true]

/-- Settles O48: the owner or the round-robin wins by the window, and the head's hand-off is the same. -/
theorem streamReleaseSendsTheWinner : Obligations.StreamReleaseSendsTheWinner := by
  intro s k d rest t e g charged robinWins ownerWins openWindow sent hready hfree hmode hqueue
  refine ⟨?_, fun hopen hwins => ?_⟩
  · rintro ⟨i, entry, hwindow, howner, hnumber, helig⟩
    have hselected : selected s = some (.owner k) :=
      (selected_of_releasesByWindow hmode).trans (selectByWindow_of_owner hwindow howner hnumber helig)
    rw [exec_release_of_owner (releaseDue_of_selected hready hfree hselected) hqueue, sendHead_eq]
    rfl
  · obtain ⟨helig, hfirst⟩ := hwins
    have hselected : selected s = some (.roundRobin k) :=
      ((selected_of_releasesByWindow hmode).trans (selectByWindow_of_open hopen)).trans (roundRobin_of_winner helig hfirst)
    rw [exec_release_of_roundRobin (releaseDue_of_selected hready hfree hselected) hqueue, sendHead_eq]
    rfl

/-! ### The window and the eligibilities (R53, R81 to R83) -/

theorem window_of_stopped {s : State} (h : s.timer.state = .stopped) : window s = .none := by
  simp only [window, h]

theorem window_of_waitSync {s : State} (h : s.timer.state = .waitSync) : window s = .gap s.settings.gap := by
  simp only [window, h]

theorem window_of_slot {s : State} {k : SlotId}
    (h : s.timer.state = .free ∨ s.timer.state = .locked ∨ s.timer.state = .holdover) (hslot : s.timer.slot = some k) :
    window s = .slot k (s.active.entries.get k) := by
  obtain h | h | h := h <;> simp only [window, h, hslot]

/-- R81. A head waits for an older request of its initiator and order group that is held anywhere. -/
theorem orderWaiting_iff (s : State) (d : Descriptor) :
    orderWaiting s d = true ↔
      d.group ≠ 0#2 ∧ ∃ o, ((∃ j : StreamId, o ∈ queueOf s j) ∨ o ∈ s.store.pass) ∧ o.initiator = d.initiator ∧
        o.group = d.group ∧ (s.store.nextSeq - d.seq).toNat < (s.store.nextSeq - o.seq).toNat := by
  simp only [orderWaiting, older, Bool.and_eq_true, decide_eq_true_iff, List.any_eq_true, allHeld, streamHeld_eq_flatMap,
    List.mem_append, List.mem_flatMap, List.mem_finRange, true_and, and_assoc]
  rfl

/-- R82, R83. What a stream must be to serve its head at all. -/
theorem servable_iff (s : State) (k : StreamId) (d : Descriptor) :
    servable s k d = true ↔
      (((s.streams.get k).state = .active ∨ (s.streams.get k).state = .draining) ∧
        inFlightCount s k < (s.streams.get k).maxInFlight.toNat) ∧ ¬ orderWaiting s d = true := by
  simp only [servable, Bool.and_eq_true, Bool.or_eq_true, decide_eq_true_iff, Bool.not_eq_true', Bool.not_eq_true]
  tauto

theorem ownerEligible_iff (s : State) (k : StreamId) :
    ownerEligible s k = true ↔
      ∃ d rest, queueOf s k = d :: rest ∧ servable s k d = true ∧ d.length ≤ (s.streams.get k).credit := by
  unfold ownerEligible
  cases hqueue : queueOf s k with
  | nil => simp
  | cons d rest => simp [affordable]

theorem openEligible_iff (s : State) (k : StreamId) :
    openEligible s k = true ↔
      ∃ d rest, queueOf s k = d :: rest ∧ servable s k d = true ∧ (s.streams.get k).openShare = true ∧
        (d.length ≤ (s.streams.get k).credit ∨ (s.streams.get k).overBudget = .lend) := by
  unfold openEligible
  cases hqueue : queueOf s k with
  | nil => simp
  | cons d rest => simp [affordable, and_assoc]

theorem inFlightCount_eq_countP (s : State) (k : StreamId) :
    inFlightCount s k = (List.finRange 48).countP fun t => (s.table.get t).isInFlightOf k := by
  rw [inFlightCount, s.table.cells_eq_ofFn, List.ofFn_eq_map, List.countP_map]
  rfl

/-! ### When nothing is released -/

/-- R85 to R89. The windows that release nothing, and the open ones without an open-eligible head. -/
theorem selectByWindow_eq_none {s : State}
    (h : window s = .none ∨ window s = .gap .quiet ∨ (∃ i entry, window s = .slot i entry ∧ entry.owner = .quiet) ∨
      (∃ i entry, window s = .slot i entry ∧ entry.owner = .stream ∧ entry.lend = false ∧
        ∀ k : StreamId, entry.number.toNat = k.val → ownerEligible s k = false) ∨
      ((∀ k : StreamId, openEligible s k = false) ∧ OpenWindow s)) : selectByWindow s = none := by
  obtain h | h | ⟨i, entry, h, howner⟩ | ⟨i, entry, h, howner, hlend, helig⟩ | ⟨hnone, hopen⟩ := h
  · simp only [selectByWindow, h]
  · simp only [selectByWindow, h]
  · simp only [selectByWindow, h, howner]
  · simp only [selectByWindow, h, howner, ownedSlot_of_not_eligible howner helig, hlend, Bool.false_eq_true, if_false]
  · rw [selectByWindow_of_open hopen, roundRobin_eq_none hnone]

/-- Settles O49: what the selection reads, and every case in which it finds no winner. -/
theorem eligibilityAndWhenNothingIsReleased : Obligations.EligibilityAndWhenNothingIsReleased := by
  refine ⟨fun s => ⟨window_of_stopped, window_of_waitSync, fun k => window_of_slot⟩, fun s k => ?_, fun s k => ?_,
    fun s hquiet => ?_⟩
  · rw [inFlightCount_eq_countP]
    refine List.countP_congr fun t _ => ?_
    cases s.table.get t <;> exact Iff.rfl
  · intro e head waits serves
    have hservable (d : Descriptor) : servable s k d = true ↔ serves ∧ ¬ waits d := by
      rw [servable_iff, orderWaiting_iff]
    refine ⟨?_, ?_⟩
    · rw [ownerEligible_iff]
      constructor
      · rintro ⟨d, rest, hqueue, hd, hcredit⟩
        obtain ⟨hserves, hwaits⟩ := (hservable d).1 hd
        exact ⟨hserves, d, rest, hqueue, hwaits, hcredit⟩
      · rintro ⟨hserves, d, rest, hqueue, hwaits, hcredit⟩
        exact ⟨d, rest, hqueue, (hservable d).2 ⟨hserves, hwaits⟩, hcredit⟩
    · rw [openEligible_iff]
      constructor
      · rintro ⟨d, rest, hqueue, hd, hshare, hcredit⟩
        obtain ⟨hserves, hwaits⟩ := (hservable d).1 hd
        exact ⟨hserves, hshare, d, rest, hqueue, hwaits, hcredit⟩
      · rintro ⟨hserves, hshare, d, rest, hqueue, hwaits, hcredit⟩
        exact ⟨d, rest, hqueue, (hservable d).2 ⟨hserves, hwaits⟩, hshare, hcredit⟩
  · refine exec_release_of_none (releaseDue_eq_none ?_)
    obtain h | h | h | ⟨hmode, h⟩ | ⟨hmode, hpass⟩ := hquiet
    · exact .inl h
    · exact .inr (.inl h)
    · exact .inr (.inr (selected_of_quiesced h))
    · exact .inr (.inr ((selected_of_releasesByWindow hmode).trans (selectByWindow_eq_none h)))
    · right
      right
      rw [selected_of_releasesPass hmode, selectPass, hpass]
      rfl

end Sys2Proof.Machine

/-! PROOFS. REPEAT_LAST and STATUS (R165, R166): what placing a response leaves retained, and what the payload of
STATUS carries at each offset of Table 12-3 under the store and event queue laws. -/
namespace Sys2Proof.Machine
open Sys2Proof

/-! ### REPEAT_LAST -/

theorem exec_repeatLast (seq : Byte) (args : List Byte) (s : State) :
    exec (.repeatLast seq args) s =
      .next ((placeResponse s).withLink ((placeResponse s).link.decide
        { frame := repeatFrame seq args (placeResponse s).link, retain := false })) := rfl

theorem repeatFrame_of_retained {l : Link} {last : List Byte} (h : l.retained = some last) (seq : Byte) :
    repeatFrame seq [] l = last := by simp only [repeatFrame, h]

theorem repeatFrame_of_not_retained {l : Link} (h : l.retained = none) (seq : Byte) :
    repeatFrame seq [] l = responseFrame .noData seq [] := by simp only [repeatFrame, h]

theorem repeatFrame_of_args_ne_nil {args : List Byte} (h : args ≠ []) (seq : Byte) (l : Link) :
    repeatFrame seq args l = responseFrame .badArgument seq [] := by
  cases args with
  | nil => exact absurd rfl h
  | cons b rest => rfl

/-- R164, R165. A response that is not to be retained leaves the retained last response when it is placed. -/
theorem place_decide_retained (frame : List Byte) (l : Link) :
    (l.decide { frame := frame, retain := false }).place.retained = l.retained := rfl

/-- R163, R164. While the decided response waits, RESPONSE_FRAME_READY and a deselection both place it. -/
theorem retained_of_decided {s t u : State} {r : Reply} {l : Link} (h : t = s.withLink (l.decide r))
    (hu : exec .responseFrameReady t = .next u ∨ exec .mselDeassertion t = .next u) :
    u.link.retained = (l.decide r).place.retained := by
  subst h
  obtain hu | hu := hu
  · cases hu
    rfl
  · rw [exec_mselDeassertion_of_selected (.inl rfl)] at hu
    cases hu
    rfl

/-- Settles O8: by what REPEAT_LAST finds, and by the two commands that place its response. -/
theorem repeatLastReturnsTheRetainedResponse : Obligations.RepeatLastReturnsTheRetainedResponse := by
  refine fun s₀ seq args => ⟨fun last hlast hargs => ?_, fun hnone hargs => ?_, fun hargs => ?_, fun t u ht hu => ?_⟩
  · rw [exec_repeatLast, hargs, repeatFrame_of_retained hlast]
    rfl
  · rw [exec_repeatLast, hargs, repeatFrame_of_not_retained hnone]
    rfl
  · rw [exec_repeatLast, repeatFrame_of_args_ne_nil hargs]
    rfl
  · rw [exec_repeatLast] at ht
    injection ht with ht
    exact (retained_of_decided ht.symm hu).trans (place_decide_retained _ _)

/-! ### STATUS -/

theorem exec_status (seq : Byte) (args : List Byte) (s : State) :
    exec (.status seq args) s = .next (respond seq true (cmdStatus args) s) := rfl

theorem cmdStatus_nil (s : State) : cmdStatus [] s = accepted (statusPayload s) s := rfl

theorem cmdStatus_cons (b : Byte) (args : List Byte) (s : State) :
    cmdStatus (b :: args) s = refusal .badArgument s := rfl

/-- R57. With the store law the free descriptors and those held make up all 128. -/
theorem freeDescriptors_add_held {s : State} (h : StoreLaw s) : freeDescriptors s + heldCount s = 128 := by
  rw [freeDescriptors_eq]
  exact Nat.sub_add_cancel ((length_allHeld s).symm.trans_le h.1)

/-- R57. With the store law the free data units and those of the held writes make up all 384. -/
theorem freeUnits_add_held {s : State} (h : StoreLaw s) :
    freeUnits s + ((((List.finRange 24).flatMap fun k => queueOf s k) ++ s.store.pass).map fun d =>
      if d.kind = .write then d.length else 0).sum = 384 := by
  rw [← streamHeld_eq_flatMap]
  exact Nat.sub_add_cancel h.2.1

theorem passCount_le {s : State} (h : StoreLaw s) : passCount s ≤ 128 :=
  (List.sublist_append_right _ _).length_le.trans h.1

theorem inFlightTotal_le (s : State) : inFlightTotal s ≤ 48 := List.countP_le_length.trans_eq s.table.size

theorem orphanedTotal_le (s : State) : orphanedTotal s ≤ 48 := List.countP_le_length.trans_eq s.table.size

theorem flagNat_le_one (b : Bool) : flagNat b ≤ 1 := by cases b <;> decide

theorem flagNat_eq_one_iff (b : Bool) : flagNat b = 1 ↔ b = true := by cases b <;> decide

/-- Table 12-3. The slot byte: FFh where the timer runs no slot. -/
theorem field_statusPayload_slot (s : State) :
    field (statusPayload s) 7 1 = s.timer.slot.elim 255 Fin.val := by
  simp only [statusPayload, bytes32, field, List.cons_append, List.nil_append, List.drop_succ_cons,
    List.take_succ_cons, List.drop_zero, List.take_zero]
  cases s.timer.slot with
  | none => rfl
  | some k => exact beNat_natByte (k.isLt.trans (by decide))

theorem field_statusPayload_freeDescriptors (s : State) : field (statusPayload s) 12 1 = freeDescriptors s :=
  beNat_natByte ((Nat.sub_le _ _).trans_lt (by decide : numDescriptors < 256))

theorem field_statusPayload_freeUnits (s : State) : field (statusPayload s) 13 2 = freeUnits s :=
  beNat_bytes16_ofNat ((Nat.sub_le _ _).trans_lt (by decide : numDataUnits < 2 ^ 16))

theorem field_statusPayload_pass {s : State} (h : StoreLaw s) : field (statusPayload s) 15 1 = s.store.pass.length :=
  beNat_natByte ((passCount_le h).trans_lt (by decide))

theorem field_statusPayload_inFlight (s : State) :
    field (statusPayload s) 16 1 = s.table.cells.countP Entry.isInFlight :=
  beNat_natByte ((inFlightTotal_le s).trans_lt (by decide))

theorem field_statusPayload_orphaned (s : State) :
    field (statusPayload s) 17 1 = s.table.cells.countP Entry.isOrphaned :=
  beNat_natByte ((orphanedTotal_le s).trans_lt (by decide))

theorem field_statusPayload_records {s : State} (h : EventQueueLaw s) :
    field (statusPayload s) 18 1 = s.events.records.length :=
  beNat_natByte (h.1.trans_lt (by decide))

theorem field_statusPayload_attn (s : State) : field (statusPayload s) 19 1 = flagNat (attn s) := beNat_flagByte _

/-- Settles O9: the command answers the payload of the state as it is; the laws bound its counts. -/
theorem statusReportsTheState : Obligations.StatusReportsTheState := by
  refine ⟨fun s₀ seq => ?_, fun s₀ seq b args => ?_, fun s hstore hevents =>
    ⟨rfl, beNat_singleton _, beNat_singleton _, beNat_singleton _, beNat_bytes32 _, ?_, beNat_bytes32 _, ?_, ?_,
      field_statusPayload_pass hstore, field_statusPayload_inFlight s, field_statusPayload_orphaned s,
      field_statusPayload_records hevents, ?_, ?_, rfl⟩⟩
  · rw [exec_status, respond_of_accepted (cmdStatus_nil _)]
  · rw [exec_status, respond_of_refusal (cmdStatus_cons b args _)]
  · rw [field_statusPayload_slot]
    cases s.timer.slot <;> rfl
  · rw [field_statusPayload_freeDescriptors, freeDescriptors_add_held hstore]
  · rw [field_statusPayload_freeUnits]
    exact freeUnits_add_held hstore
  · rw [field_statusPayload_attn, flagNat_eq_one_iff]
  · rw [field_statusPayload_attn]
    exact flagNat_le_one _

end Sys2Proof.Machine
